-- ==== Sys2Proof/Word.lean ====
section
/-! DEFINITION. The word types of the hardware (spec/00_scope.md R7): 16-bit words, 15-bit addresses,
and the byte in which the model's memory list keeps half a word (log entry 7). -/

namespace Sys2Proof

/-- A 16-bit value: an instruction, a register, an ALU operand or result, a memory word (R7). -/
abbrev Word := BitVec 16

/-- A 15-bit value: the program counter, the CPU's data address, an A-instruction's literal (R7). -/
abbrev Addr15 := BitVec 15

/-- Half a word, the unit of the model's memory list (R51; log entry 7). -/
abbrev Byte := BitVec 8

/-- The six ALU control bits `zx nx zy ny f no`, `zx` the most significant (R83). -/
abbrev AluCode := BitVec 6

end Sys2Proof
end

