-- ==== Sys2Proof/Syntax.lean ====
section
/-! DEFINITION. The instructions as terms: one constructor for each row of spec/opcode_table.json. -/

namespace Sys2Proof

/-- The destination field of a C-instruction, `{d1, d2, d3}` = bits 5, 4, 3 (R83, R249): three independent
write enables. -/
structure Dest where
  /-- bit 5: write A -/
  d1 : Bool
  /-- bit 4: write D -/
  d2 : Bool
  /-- bit 3: write M, the data-memory word at the low 15 bits of A -/
  d3 : Bool
  deriving DecidableEq, Repr

/-- The jump field of a C-instruction, `{j1, j2, j3}` = bits 2, 1, 0 (R83, R258): jump on a negative, a zero,
a positive result. -/
structure Jump where
  /-- bit 2: jump when the result is negative -/
  j1 : Bool
  /-- bit 1: jump when the result is zero -/
  j2 : Bool
  /-- bit 0: jump when the result is positive -/
  j3 : Bool
  deriving DecidableEq, Repr

/-- The second ALU operand, selected by bit 12 (R85, R245). -/
inductive YSource where
  /-- `a = 0`: the A register -/
  | regA
  /-- `a = 1`: the data-memory word at the low 15 bits of A -/
  | memM
  deriving DecidableEq, Repr

/-- Every instruction of the opcode table: the A-instruction (R81, R284), and for each value of `{a, c}` one
C-instruction with its destination and jump fields (R82, R87, R286). A constructor `c0_<c>` or `c1_<c>` is
the row the table writes `c[0,<c>]` or `c[1,<c>]`. -/
inductive Instr where
  /-- `@value` (R284) -/
  | atValue (value : Addr15)
  /-- `dest=D&A;jump` (R130): a = 0, c = 000000 -/
  | andDA (dest : Dest) (jump : Jump)
  /-- `dest=c[0,000001];jump` (R131): a = 0, c = 000001 -/
  | c0_000001 (dest : Dest) (jump : Jump)
  /-- `dest=D+A;jump` (R132): a = 0, c = 000010 -/
  | addDA (dest : Dest) (jump : Jump)
  /-- `dest=c[0,000011];jump` (R133): a = 0, c = 000011 -/
  | c0_000011 (dest : Dest) (jump : Jump)
  /-- `dest=c[0,000100];jump` (R134): a = 0, c = 000100 -/
  | c0_000100 (dest : Dest) (jump : Jump)
  /-- `dest=c[0,000101];jump` (R135): a = 0, c = 000101 -/
  | c0_000101 (dest : Dest) (jump : Jump)
  /-- `dest=c[0,000110];jump` (R136): a = 0, c = 000110 -/
  | c0_000110 (dest : Dest) (jump : Jump)
  /-- `dest=A-D;jump` (R137): a = 0, c = 000111 -/
  | subAD (dest : Dest) (jump : Jump)
  /-- `dest=c[0,001000];jump` (R138): a = 0, c = 001000 -/
  | c0_001000 (dest : Dest) (jump : Jump)
  /-- `dest=c[0,001001];jump` (R139): a = 0, c = 001001 -/
  | c0_001001 (dest : Dest) (jump : Jump)
  /-- `dest=c[0,001010];jump` (R140): a = 0, c = 001010 -/
  | c0_001010 (dest : Dest) (jump : Jump)
  /-- `dest=c[0,001011];jump` (R141): a = 0, c = 001011 -/
  | c0_001011 (dest : Dest) (jump : Jump)
  /-- `dest=D;jump` (R142): a = 0, c = 001100 -/
  | copyD (dest : Dest) (jump : Jump)
  /-- `dest=!D;jump` (R143): a = 0, c = 001101 -/
  | notD (dest : Dest) (jump : Jump)
  /-- `dest=D-1;jump` (R144): a = 0, c = 001110 -/
  | decD (dest : Dest) (jump : Jump)
  /-- `dest=-D;jump` (R145): a = 0, c = 001111 -/
  | negD (dest : Dest) (jump : Jump)
  /-- `dest=c[0,010000];jump` (R146): a = 0, c = 010000 -/
  | c0_010000 (dest : Dest) (jump : Jump)
  /-- `dest=c[0,010001];jump` (R147): a = 0, c = 010001 -/
  | c0_010001 (dest : Dest) (jump : Jump)
  /-- `dest=c[0,010010];jump` (R148): a = 0, c = 010010 -/
  | c0_010010 (dest : Dest) (jump : Jump)
  /-- `dest=D-A;jump` (R149): a = 0, c = 010011 -/
  | subDA (dest : Dest) (jump : Jump)
  /-- `dest=c[0,010100];jump` (R150): a = 0, c = 010100 -/
  | c0_010100 (dest : Dest) (jump : Jump)
  /-- `dest=D|A;jump` (R151): a = 0, c = 010101 -/
  | orDA (dest : Dest) (jump : Jump)
  /-- `dest=c[0,010110];jump` (R152): a = 0, c = 010110 -/
  | c0_010110 (dest : Dest) (jump : Jump)
  /-- `dest=c[0,010111];jump` (R153): a = 0, c = 010111 -/
  | c0_010111 (dest : Dest) (jump : Jump)
  /-- `dest=c[0,011000];jump` (R154): a = 0, c = 011000 -/
  | c0_011000 (dest : Dest) (jump : Jump)
  /-- `dest=c[0,011001];jump` (R155): a = 0, c = 011001 -/
  | c0_011001 (dest : Dest) (jump : Jump)
  /-- `dest=c[0,011010];jump` (R156): a = 0, c = 011010 -/
  | c0_011010 (dest : Dest) (jump : Jump)
  /-- `dest=c[0,011011];jump` (R157): a = 0, c = 011011 -/
  | c0_011011 (dest : Dest) (jump : Jump)
  /-- `dest=c[0,011100];jump` (R158): a = 0, c = 011100 -/
  | c0_011100 (dest : Dest) (jump : Jump)
  /-- `dest=c[0,011101];jump` (R159): a = 0, c = 011101 -/
  | c0_011101 (dest : Dest) (jump : Jump)
  /-- `dest=c[0,011110];jump` (R160): a = 0, c = 011110 -/
  | c0_011110 (dest : Dest) (jump : Jump)
  /-- `dest=D+1;jump` (R161): a = 0, c = 011111 -/
  | incD (dest : Dest) (jump : Jump)
  /-- `dest=c[0,100000];jump` (R162): a = 0, c = 100000 -/
  | c0_100000 (dest : Dest) (jump : Jump)
  /-- `dest=c[0,100001];jump` (R163): a = 0, c = 100001 -/
  | c0_100001 (dest : Dest) (jump : Jump)
  /-- `dest=c[0,100010];jump` (R164): a = 0, c = 100010 -/
  | c0_100010 (dest : Dest) (jump : Jump)
  /-- `dest=c[0,100011];jump` (R165): a = 0, c = 100011 -/
  | c0_100011 (dest : Dest) (jump : Jump)
  /-- `dest=c[0,100100];jump` (R166): a = 0, c = 100100 -/
  | c0_100100 (dest : Dest) (jump : Jump)
  /-- `dest=c[0,100101];jump` (R167): a = 0, c = 100101 -/
  | c0_100101 (dest : Dest) (jump : Jump)
  /-- `dest=c[0,100110];jump` (R168): a = 0, c = 100110 -/
  | c0_100110 (dest : Dest) (jump : Jump)
  /-- `dest=c[0,100111];jump` (R169): a = 0, c = 100111 -/
  | c0_100111 (dest : Dest) (jump : Jump)
  /-- `dest=c[0,101000];jump` (R170): a = 0, c = 101000 -/
  | c0_101000 (dest : Dest) (jump : Jump)
  /-- `dest=c[0,101001];jump` (R171): a = 0, c = 101001 -/
  | c0_101001 (dest : Dest) (jump : Jump)
  /-- `dest=0;jump` (R172): a = 0, c = 101010 -/
  | const0 (dest : Dest) (jump : Jump)
  /-- `dest=c[0,101011];jump` (R173): a = 0, c = 101011 -/
  | c0_101011 (dest : Dest) (jump : Jump)
  /-- `dest=c[0,101100];jump` (R174): a = 0, c = 101100 -/
  | c0_101100 (dest : Dest) (jump : Jump)
  /-- `dest=c[0,101101];jump` (R175): a = 0, c = 101101 -/
  | c0_101101 (dest : Dest) (jump : Jump)
  /-- `dest=c[0,101110];jump` (R176): a = 0, c = 101110 -/
  | c0_101110 (dest : Dest) (jump : Jump)
  /-- `dest=c[0,101111];jump` (R177): a = 0, c = 101111 -/
  | c0_101111 (dest : Dest) (jump : Jump)
  /-- `dest=A;jump` (R178): a = 0, c = 110000 -/
  | copyA (dest : Dest) (jump : Jump)
  /-- `dest=!A;jump` (R179): a = 0, c = 110001 -/
  | notA (dest : Dest) (jump : Jump)
  /-- `dest=A-1;jump` (R180): a = 0, c = 110010 -/
  | decA (dest : Dest) (jump : Jump)
  /-- `dest=-A;jump` (R181): a = 0, c = 110011 -/
  | negA (dest : Dest) (jump : Jump)
  /-- `dest=c[0,110100];jump` (R182): a = 0, c = 110100 -/
  | c0_110100 (dest : Dest) (jump : Jump)
  /-- `dest=c[0,110101];jump` (R183): a = 0, c = 110101 -/
  | c0_110101 (dest : Dest) (jump : Jump)
  /-- `dest=c[0,110110];jump` (R184): a = 0, c = 110110 -/
  | c0_110110 (dest : Dest) (jump : Jump)
  /-- `dest=A+1;jump` (R185): a = 0, c = 110111 -/
  | incA (dest : Dest) (jump : Jump)
  /-- `dest=c[0,111000];jump` (R186): a = 0, c = 111000 -/
  | c0_111000 (dest : Dest) (jump : Jump)
  /-- `dest=c[0,111001];jump` (R187): a = 0, c = 111001 -/
  | c0_111001 (dest : Dest) (jump : Jump)
  /-- `dest=-1;jump` (R188): a = 0, c = 111010 -/
  | constMinus1 (dest : Dest) (jump : Jump)
  /-- `dest=c[0,111011];jump` (R189): a = 0, c = 111011 -/
  | c0_111011 (dest : Dest) (jump : Jump)
  /-- `dest=c[0,111100];jump` (R190): a = 0, c = 111100 -/
  | c0_111100 (dest : Dest) (jump : Jump)
  /-- `dest=c[0,111101];jump` (R191): a = 0, c = 111101 -/
  | c0_111101 (dest : Dest) (jump : Jump)
  /-- `dest=c[0,111110];jump` (R192): a = 0, c = 111110 -/
  | c0_111110 (dest : Dest) (jump : Jump)
  /-- `dest=1;jump` (R193): a = 0, c = 111111 -/
  | const1 (dest : Dest) (jump : Jump)
  /-- `dest=D&M;jump` (R130): a = 1, c = 000000 -/
  | andDM (dest : Dest) (jump : Jump)
  /-- `dest=c[1,000001];jump` (R131): a = 1, c = 000001 -/
  | c1_000001 (dest : Dest) (jump : Jump)
  /-- `dest=D+M;jump` (R132): a = 1, c = 000010 -/
  | addDM (dest : Dest) (jump : Jump)
  /-- `dest=c[1,000011];jump` (R133): a = 1, c = 000011 -/
  | c1_000011 (dest : Dest) (jump : Jump)
  /-- `dest=c[1,000100];jump` (R134): a = 1, c = 000100 -/
  | c1_000100 (dest : Dest) (jump : Jump)
  /-- `dest=c[1,000101];jump` (R135): a = 1, c = 000101 -/
  | c1_000101 (dest : Dest) (jump : Jump)
  /-- `dest=c[1,000110];jump` (R136): a = 1, c = 000110 -/
  | c1_000110 (dest : Dest) (jump : Jump)
  /-- `dest=M-D;jump` (R137): a = 1, c = 000111 -/
  | subMD (dest : Dest) (jump : Jump)
  /-- `dest=c[1,001000];jump` (R138): a = 1, c = 001000 -/
  | c1_001000 (dest : Dest) (jump : Jump)
  /-- `dest=c[1,001001];jump` (R139): a = 1, c = 001001 -/
  | c1_001001 (dest : Dest) (jump : Jump)
  /-- `dest=c[1,001010];jump` (R140): a = 1, c = 001010 -/
  | c1_001010 (dest : Dest) (jump : Jump)
  /-- `dest=c[1,001011];jump` (R141): a = 1, c = 001011 -/
  | c1_001011 (dest : Dest) (jump : Jump)
  /-- `dest=c[1,001100];jump` (R142): a = 1, c = 001100 -/
  | c1_001100 (dest : Dest) (jump : Jump)
  /-- `dest=c[1,001101];jump` (R143): a = 1, c = 001101 -/
  | c1_001101 (dest : Dest) (jump : Jump)
  /-- `dest=c[1,001110];jump` (R144): a = 1, c = 001110 -/
  | c1_001110 (dest : Dest) (jump : Jump)
  /-- `dest=c[1,001111];jump` (R145): a = 1, c = 001111 -/
  | c1_001111 (dest : Dest) (jump : Jump)
  /-- `dest=c[1,010000];jump` (R146): a = 1, c = 010000 -/
  | c1_010000 (dest : Dest) (jump : Jump)
  /-- `dest=c[1,010001];jump` (R147): a = 1, c = 010001 -/
  | c1_010001 (dest : Dest) (jump : Jump)
  /-- `dest=c[1,010010];jump` (R148): a = 1, c = 010010 -/
  | c1_010010 (dest : Dest) (jump : Jump)
  /-- `dest=D-M;jump` (R149): a = 1, c = 010011 -/
  | subDM (dest : Dest) (jump : Jump)
  /-- `dest=c[1,010100];jump` (R150): a = 1, c = 010100 -/
  | c1_010100 (dest : Dest) (jump : Jump)
  /-- `dest=D|M;jump` (R151): a = 1, c = 010101 -/
  | orDM (dest : Dest) (jump : Jump)
  /-- `dest=c[1,010110];jump` (R152): a = 1, c = 010110 -/
  | c1_010110 (dest : Dest) (jump : Jump)
  /-- `dest=c[1,010111];jump` (R153): a = 1, c = 010111 -/
  | c1_010111 (dest : Dest) (jump : Jump)
  /-- `dest=c[1,011000];jump` (R154): a = 1, c = 011000 -/
  | c1_011000 (dest : Dest) (jump : Jump)
  /-- `dest=c[1,011001];jump` (R155): a = 1, c = 011001 -/
  | c1_011001 (dest : Dest) (jump : Jump)
  /-- `dest=c[1,011010];jump` (R156): a = 1, c = 011010 -/
  | c1_011010 (dest : Dest) (jump : Jump)
  /-- `dest=c[1,011011];jump` (R157): a = 1, c = 011011 -/
  | c1_011011 (dest : Dest) (jump : Jump)
  /-- `dest=c[1,011100];jump` (R158): a = 1, c = 011100 -/
  | c1_011100 (dest : Dest) (jump : Jump)
  /-- `dest=c[1,011101];jump` (R159): a = 1, c = 011101 -/
  | c1_011101 (dest : Dest) (jump : Jump)
  /-- `dest=c[1,011110];jump` (R160): a = 1, c = 011110 -/
  | c1_011110 (dest : Dest) (jump : Jump)
  /-- `dest=c[1,011111];jump` (R161): a = 1, c = 011111 -/
  | c1_011111 (dest : Dest) (jump : Jump)
  /-- `dest=c[1,100000];jump` (R162): a = 1, c = 100000 -/
  | c1_100000 (dest : Dest) (jump : Jump)
  /-- `dest=c[1,100001];jump` (R163): a = 1, c = 100001 -/
  | c1_100001 (dest : Dest) (jump : Jump)
  /-- `dest=c[1,100010];jump` (R164): a = 1, c = 100010 -/
  | c1_100010 (dest : Dest) (jump : Jump)
  /-- `dest=c[1,100011];jump` (R165): a = 1, c = 100011 -/
  | c1_100011 (dest : Dest) (jump : Jump)
  /-- `dest=c[1,100100];jump` (R166): a = 1, c = 100100 -/
  | c1_100100 (dest : Dest) (jump : Jump)
  /-- `dest=c[1,100101];jump` (R167): a = 1, c = 100101 -/
  | c1_100101 (dest : Dest) (jump : Jump)
  /-- `dest=c[1,100110];jump` (R168): a = 1, c = 100110 -/
  | c1_100110 (dest : Dest) (jump : Jump)
  /-- `dest=c[1,100111];jump` (R169): a = 1, c = 100111 -/
  | c1_100111 (dest : Dest) (jump : Jump)
  /-- `dest=c[1,101000];jump` (R170): a = 1, c = 101000 -/
  | c1_101000 (dest : Dest) (jump : Jump)
  /-- `dest=c[1,101001];jump` (R171): a = 1, c = 101001 -/
  | c1_101001 (dest : Dest) (jump : Jump)
  /-- `dest=c[1,101010];jump` (R172): a = 1, c = 101010 -/
  | c1_101010 (dest : Dest) (jump : Jump)
  /-- `dest=c[1,101011];jump` (R173): a = 1, c = 101011 -/
  | c1_101011 (dest : Dest) (jump : Jump)
  /-- `dest=c[1,101100];jump` (R174): a = 1, c = 101100 -/
  | c1_101100 (dest : Dest) (jump : Jump)
  /-- `dest=c[1,101101];jump` (R175): a = 1, c = 101101 -/
  | c1_101101 (dest : Dest) (jump : Jump)
  /-- `dest=c[1,101110];jump` (R176): a = 1, c = 101110 -/
  | c1_101110 (dest : Dest) (jump : Jump)
  /-- `dest=c[1,101111];jump` (R177): a = 1, c = 101111 -/
  | c1_101111 (dest : Dest) (jump : Jump)
  /-- `dest=M;jump` (R178): a = 1, c = 110000 -/
  | copyM (dest : Dest) (jump : Jump)
  /-- `dest=!M;jump` (R179): a = 1, c = 110001 -/
  | notM (dest : Dest) (jump : Jump)
  /-- `dest=M-1;jump` (R180): a = 1, c = 110010 -/
  | decM (dest : Dest) (jump : Jump)
  /-- `dest=-M;jump` (R181): a = 1, c = 110011 -/
  | negM (dest : Dest) (jump : Jump)
  /-- `dest=c[1,110100];jump` (R182): a = 1, c = 110100 -/
  | c1_110100 (dest : Dest) (jump : Jump)
  /-- `dest=c[1,110101];jump` (R183): a = 1, c = 110101 -/
  | c1_110101 (dest : Dest) (jump : Jump)
  /-- `dest=c[1,110110];jump` (R184): a = 1, c = 110110 -/
  | c1_110110 (dest : Dest) (jump : Jump)
  /-- `dest=M+1;jump` (R185): a = 1, c = 110111 -/
  | incM (dest : Dest) (jump : Jump)
  /-- `dest=c[1,111000];jump` (R186): a = 1, c = 111000 -/
  | c1_111000 (dest : Dest) (jump : Jump)
  /-- `dest=c[1,111001];jump` (R187): a = 1, c = 111001 -/
  | c1_111001 (dest : Dest) (jump : Jump)
  /-- `dest=c[1,111010];jump` (R188): a = 1, c = 111010 -/
  | c1_111010 (dest : Dest) (jump : Jump)
  /-- `dest=c[1,111011];jump` (R189): a = 1, c = 111011 -/
  | c1_111011 (dest : Dest) (jump : Jump)
  /-- `dest=c[1,111100];jump` (R190): a = 1, c = 111100 -/
  | c1_111100 (dest : Dest) (jump : Jump)
  /-- `dest=c[1,111101];jump` (R191): a = 1, c = 111101 -/
  | c1_111101 (dest : Dest) (jump : Jump)
  /-- `dest=c[1,111110];jump` (R192): a = 1, c = 111110 -/
  | c1_111110 (dest : Dest) (jump : Jump)
  /-- `dest=c[1,111111];jump` (R193): a = 1, c = 111111 -/
  | c1_111111 (dest : Dest) (jump : Jump)
  deriving DecidableEq, Repr

end Sys2Proof
end

