-- ==== Sys2Proof/Decode.lean ====
section
/-! DEFINITION. The decoder of 16-bit words (spec/30_encoding.md R87), total, and the encoder. -/

namespace Sys2Proof

/-- The destination field from its three bits, `d1` the most significant (R83). -/
def destOfBits (b : BitVec 3) : Dest := ⟨b.getLsbD 2, b.getLsbD 1, b.getLsbD 0⟩

/-- The jump field from its three bits, `j1` the most significant (R83). -/
def jumpOfBits (b : BitVec 3) : Jump := ⟨b.getLsbD 2, b.getLsbD 1, b.getLsbD 0⟩

/-- The three bits of a destination field (R83). -/
def Dest.bits (d : Dest) : BitVec 3 := BitVec.ofBool d.d1 ++ BitVec.ofBool d.d2 ++ BitVec.ofBool d.d3

/-- The three bits of a jump field (R83). -/
def Jump.bits (j : Jump) : BitVec 3 := BitVec.ofBool j.j1 ++ BitVec.ofBool j.j2 ++ BitVec.ofBool j.j3

/-- The C-instruction of the seven bits `a zx nx zy ny f no` (R82, R88): one row for each value. -/
def decodeComp (a zx nx zy ny f no : Bool) : Dest → Jump → Instr :=
  match a, zx, nx, zy, ny, f, no with
  | false, false, false, false, false, false, false => .andDA
  | false, false, false, false, false, false, true => .c0_000001
  | false, false, false, false, false, true, false => .addDA
  | false, false, false, false, false, true, true => .c0_000011
  | false, false, false, false, true, false, false => .c0_000100
  | false, false, false, false, true, false, true => .c0_000101
  | false, false, false, false, true, true, false => .c0_000110
  | false, false, false, false, true, true, true => .subAD
  | false, false, false, true, false, false, false => .c0_001000
  | false, false, false, true, false, false, true => .c0_001001
  | false, false, false, true, false, true, false => .c0_001010
  | false, false, false, true, false, true, true => .c0_001011
  | false, false, false, true, true, false, false => .copyD
  | false, false, false, true, true, false, true => .notD
  | false, false, false, true, true, true, false => .decD
  | false, false, false, true, true, true, true => .negD
  | false, false, true, false, false, false, false => .c0_010000
  | false, false, true, false, false, false, true => .c0_010001
  | false, false, true, false, false, true, false => .c0_010010
  | false, false, true, false, false, true, true => .subDA
  | false, false, true, false, true, false, false => .c0_010100
  | false, false, true, false, true, false, true => .orDA
  | false, false, true, false, true, true, false => .c0_010110
  | false, false, true, false, true, true, true => .c0_010111
  | false, false, true, true, false, false, false => .c0_011000
  | false, false, true, true, false, false, true => .c0_011001
  | false, false, true, true, false, true, false => .c0_011010
  | false, false, true, true, false, true, true => .c0_011011
  | false, false, true, true, true, false, false => .c0_011100
  | false, false, true, true, true, false, true => .c0_011101
  | false, false, true, true, true, true, false => .c0_011110
  | false, false, true, true, true, true, true => .incD
  | false, true, false, false, false, false, false => .c0_100000
  | false, true, false, false, false, false, true => .c0_100001
  | false, true, false, false, false, true, false => .c0_100010
  | false, true, false, false, false, true, true => .c0_100011
  | false, true, false, false, true, false, false => .c0_100100
  | false, true, false, false, true, false, true => .c0_100101
  | false, true, false, false, true, true, false => .c0_100110
  | false, true, false, false, true, true, true => .c0_100111
  | false, true, false, true, false, false, false => .c0_101000
  | false, true, false, true, false, false, true => .c0_101001
  | false, true, false, true, false, true, false => .const0
  | false, true, false, true, false, true, true => .c0_101011
  | false, true, false, true, true, false, false => .c0_101100
  | false, true, false, true, true, false, true => .c0_101101
  | false, true, false, true, true, true, false => .c0_101110
  | false, true, false, true, true, true, true => .c0_101111
  | false, true, true, false, false, false, false => .copyA
  | false, true, true, false, false, false, true => .notA
  | false, true, true, false, false, true, false => .decA
  | false, true, true, false, false, true, true => .negA
  | false, true, true, false, true, false, false => .c0_110100
  | false, true, true, false, true, false, true => .c0_110101
  | false, true, true, false, true, true, false => .c0_110110
  | false, true, true, false, true, true, true => .incA
  | false, true, true, true, false, false, false => .c0_111000
  | false, true, true, true, false, false, true => .c0_111001
  | false, true, true, true, false, true, false => .constMinus1
  | false, true, true, true, false, true, true => .c0_111011
  | false, true, true, true, true, false, false => .c0_111100
  | false, true, true, true, true, false, true => .c0_111101
  | false, true, true, true, true, true, false => .c0_111110
  | false, true, true, true, true, true, true => .const1
  | true, false, false, false, false, false, false => .andDM
  | true, false, false, false, false, false, true => .c1_000001
  | true, false, false, false, false, true, false => .addDM
  | true, false, false, false, false, true, true => .c1_000011
  | true, false, false, false, true, false, false => .c1_000100
  | true, false, false, false, true, false, true => .c1_000101
  | true, false, false, false, true, true, false => .c1_000110
  | true, false, false, false, true, true, true => .subMD
  | true, false, false, true, false, false, false => .c1_001000
  | true, false, false, true, false, false, true => .c1_001001
  | true, false, false, true, false, true, false => .c1_001010
  | true, false, false, true, false, true, true => .c1_001011
  | true, false, false, true, true, false, false => .c1_001100
  | true, false, false, true, true, false, true => .c1_001101
  | true, false, false, true, true, true, false => .c1_001110
  | true, false, false, true, true, true, true => .c1_001111
  | true, false, true, false, false, false, false => .c1_010000
  | true, false, true, false, false, false, true => .c1_010001
  | true, false, true, false, false, true, false => .c1_010010
  | true, false, true, false, false, true, true => .subDM
  | true, false, true, false, true, false, false => .c1_010100
  | true, false, true, false, true, false, true => .orDM
  | true, false, true, false, true, true, false => .c1_010110
  | true, false, true, false, true, true, true => .c1_010111
  | true, false, true, true, false, false, false => .c1_011000
  | true, false, true, true, false, false, true => .c1_011001
  | true, false, true, true, false, true, false => .c1_011010
  | true, false, true, true, false, true, true => .c1_011011
  | true, false, true, true, true, false, false => .c1_011100
  | true, false, true, true, true, false, true => .c1_011101
  | true, false, true, true, true, true, false => .c1_011110
  | true, false, true, true, true, true, true => .c1_011111
  | true, true, false, false, false, false, false => .c1_100000
  | true, true, false, false, false, false, true => .c1_100001
  | true, true, false, false, false, true, false => .c1_100010
  | true, true, false, false, false, true, true => .c1_100011
  | true, true, false, false, true, false, false => .c1_100100
  | true, true, false, false, true, false, true => .c1_100101
  | true, true, false, false, true, true, false => .c1_100110
  | true, true, false, false, true, true, true => .c1_100111
  | true, true, false, true, false, false, false => .c1_101000
  | true, true, false, true, false, false, true => .c1_101001
  | true, true, false, true, false, true, false => .c1_101010
  | true, true, false, true, false, true, true => .c1_101011
  | true, true, false, true, true, false, false => .c1_101100
  | true, true, false, true, true, false, true => .c1_101101
  | true, true, false, true, true, true, false => .c1_101110
  | true, true, false, true, true, true, true => .c1_101111
  | true, true, true, false, false, false, false => .copyM
  | true, true, true, false, false, false, true => .notM
  | true, true, true, false, false, true, false => .decM
  | true, true, true, false, false, true, true => .negM
  | true, true, true, false, true, false, false => .c1_110100
  | true, true, true, false, true, false, true => .c1_110101
  | true, true, true, false, true, true, false => .c1_110110
  | true, true, true, false, true, true, true => .incM
  | true, true, true, true, false, false, false => .c1_111000
  | true, true, true, true, false, false, true => .c1_111001
  | true, true, true, true, false, true, false => .c1_111010
  | true, true, true, true, false, true, true => .c1_111011
  | true, true, true, true, true, false, false => .c1_111100
  | true, true, true, true, true, false, true => .c1_111101
  | true, true, true, true, true, true, false => .c1_111110
  | true, true, true, true, true, true, true => .c1_111111

/-- The decoder (R87): bit 15 selects the kind; bits 14 and 13 of a C-instruction are not read (R86). -/
def decode (w : Word) : Instr :=
  if w.getLsbD 15 then
    decodeComp (w.getLsbD 12) (w.getLsbD 11) (w.getLsbD 10) (w.getLsbD 9) (w.getLsbD 8) (w.getLsbD 7)
      (w.getLsbD 6) (destOfBits (w.extractLsb' 3 3)) (jumpOfBits (w.extractLsb' 0 3))
  else .atValue (w.extractLsb' 0 15)

/-- An A-instruction's word: bit 15 is 0 (R81). -/
def encodeA (value : Addr15) : Word := 0#1 ++ value

/-- A C-instruction's word: `1`, the two ignored bits, `{a, c}`, destination, jump (R83). The ignored bits are
written as 1, as every word listed in the spec has them (R86; log entry 9). -/
def encodeC (comp : BitVec 7) (dest : Dest) (jump : Jump) : Word :=
  0b111#3 ++ comp ++ dest.bits ++ jump.bits

/-- The encoder: the word of an instruction. -/
def encode (i : Instr) : Word :=
  match i with
  | .atValue value => encodeA value
  | .andDA dest jump => encodeC 0b0_000000#7 dest jump
  | .c0_000001 dest jump => encodeC 0b0_000001#7 dest jump
  | .addDA dest jump => encodeC 0b0_000010#7 dest jump
  | .c0_000011 dest jump => encodeC 0b0_000011#7 dest jump
  | .c0_000100 dest jump => encodeC 0b0_000100#7 dest jump
  | .c0_000101 dest jump => encodeC 0b0_000101#7 dest jump
  | .c0_000110 dest jump => encodeC 0b0_000110#7 dest jump
  | .subAD dest jump => encodeC 0b0_000111#7 dest jump
  | .c0_001000 dest jump => encodeC 0b0_001000#7 dest jump
  | .c0_001001 dest jump => encodeC 0b0_001001#7 dest jump
  | .c0_001010 dest jump => encodeC 0b0_001010#7 dest jump
  | .c0_001011 dest jump => encodeC 0b0_001011#7 dest jump
  | .copyD dest jump => encodeC 0b0_001100#7 dest jump
  | .notD dest jump => encodeC 0b0_001101#7 dest jump
  | .decD dest jump => encodeC 0b0_001110#7 dest jump
  | .negD dest jump => encodeC 0b0_001111#7 dest jump
  | .c0_010000 dest jump => encodeC 0b0_010000#7 dest jump
  | .c0_010001 dest jump => encodeC 0b0_010001#7 dest jump
  | .c0_010010 dest jump => encodeC 0b0_010010#7 dest jump
  | .subDA dest jump => encodeC 0b0_010011#7 dest jump
  | .c0_010100 dest jump => encodeC 0b0_010100#7 dest jump
  | .orDA dest jump => encodeC 0b0_010101#7 dest jump
  | .c0_010110 dest jump => encodeC 0b0_010110#7 dest jump
  | .c0_010111 dest jump => encodeC 0b0_010111#7 dest jump
  | .c0_011000 dest jump => encodeC 0b0_011000#7 dest jump
  | .c0_011001 dest jump => encodeC 0b0_011001#7 dest jump
  | .c0_011010 dest jump => encodeC 0b0_011010#7 dest jump
  | .c0_011011 dest jump => encodeC 0b0_011011#7 dest jump
  | .c0_011100 dest jump => encodeC 0b0_011100#7 dest jump
  | .c0_011101 dest jump => encodeC 0b0_011101#7 dest jump
  | .c0_011110 dest jump => encodeC 0b0_011110#7 dest jump
  | .incD dest jump => encodeC 0b0_011111#7 dest jump
  | .c0_100000 dest jump => encodeC 0b0_100000#7 dest jump
  | .c0_100001 dest jump => encodeC 0b0_100001#7 dest jump
  | .c0_100010 dest jump => encodeC 0b0_100010#7 dest jump
  | .c0_100011 dest jump => encodeC 0b0_100011#7 dest jump
  | .c0_100100 dest jump => encodeC 0b0_100100#7 dest jump
  | .c0_100101 dest jump => encodeC 0b0_100101#7 dest jump
  | .c0_100110 dest jump => encodeC 0b0_100110#7 dest jump
  | .c0_100111 dest jump => encodeC 0b0_100111#7 dest jump
  | .c0_101000 dest jump => encodeC 0b0_101000#7 dest jump
  | .c0_101001 dest jump => encodeC 0b0_101001#7 dest jump
  | .const0 dest jump => encodeC 0b0_101010#7 dest jump
  | .c0_101011 dest jump => encodeC 0b0_101011#7 dest jump
  | .c0_101100 dest jump => encodeC 0b0_101100#7 dest jump
  | .c0_101101 dest jump => encodeC 0b0_101101#7 dest jump
  | .c0_101110 dest jump => encodeC 0b0_101110#7 dest jump
  | .c0_101111 dest jump => encodeC 0b0_101111#7 dest jump
  | .copyA dest jump => encodeC 0b0_110000#7 dest jump
  | .notA dest jump => encodeC 0b0_110001#7 dest jump
  | .decA dest jump => encodeC 0b0_110010#7 dest jump
  | .negA dest jump => encodeC 0b0_110011#7 dest jump
  | .c0_110100 dest jump => encodeC 0b0_110100#7 dest jump
  | .c0_110101 dest jump => encodeC 0b0_110101#7 dest jump
  | .c0_110110 dest jump => encodeC 0b0_110110#7 dest jump
  | .incA dest jump => encodeC 0b0_110111#7 dest jump
  | .c0_111000 dest jump => encodeC 0b0_111000#7 dest jump
  | .c0_111001 dest jump => encodeC 0b0_111001#7 dest jump
  | .constMinus1 dest jump => encodeC 0b0_111010#7 dest jump
  | .c0_111011 dest jump => encodeC 0b0_111011#7 dest jump
  | .c0_111100 dest jump => encodeC 0b0_111100#7 dest jump
  | .c0_111101 dest jump => encodeC 0b0_111101#7 dest jump
  | .c0_111110 dest jump => encodeC 0b0_111110#7 dest jump
  | .const1 dest jump => encodeC 0b0_111111#7 dest jump
  | .andDM dest jump => encodeC 0b1_000000#7 dest jump
  | .c1_000001 dest jump => encodeC 0b1_000001#7 dest jump
  | .addDM dest jump => encodeC 0b1_000010#7 dest jump
  | .c1_000011 dest jump => encodeC 0b1_000011#7 dest jump
  | .c1_000100 dest jump => encodeC 0b1_000100#7 dest jump
  | .c1_000101 dest jump => encodeC 0b1_000101#7 dest jump
  | .c1_000110 dest jump => encodeC 0b1_000110#7 dest jump
  | .subMD dest jump => encodeC 0b1_000111#7 dest jump
  | .c1_001000 dest jump => encodeC 0b1_001000#7 dest jump
  | .c1_001001 dest jump => encodeC 0b1_001001#7 dest jump
  | .c1_001010 dest jump => encodeC 0b1_001010#7 dest jump
  | .c1_001011 dest jump => encodeC 0b1_001011#7 dest jump
  | .c1_001100 dest jump => encodeC 0b1_001100#7 dest jump
  | .c1_001101 dest jump => encodeC 0b1_001101#7 dest jump
  | .c1_001110 dest jump => encodeC 0b1_001110#7 dest jump
  | .c1_001111 dest jump => encodeC 0b1_001111#7 dest jump
  | .c1_010000 dest jump => encodeC 0b1_010000#7 dest jump
  | .c1_010001 dest jump => encodeC 0b1_010001#7 dest jump
  | .c1_010010 dest jump => encodeC 0b1_010010#7 dest jump
  | .subDM dest jump => encodeC 0b1_010011#7 dest jump
  | .c1_010100 dest jump => encodeC 0b1_010100#7 dest jump
  | .orDM dest jump => encodeC 0b1_010101#7 dest jump
  | .c1_010110 dest jump => encodeC 0b1_010110#7 dest jump
  | .c1_010111 dest jump => encodeC 0b1_010111#7 dest jump
  | .c1_011000 dest jump => encodeC 0b1_011000#7 dest jump
  | .c1_011001 dest jump => encodeC 0b1_011001#7 dest jump
  | .c1_011010 dest jump => encodeC 0b1_011010#7 dest jump
  | .c1_011011 dest jump => encodeC 0b1_011011#7 dest jump
  | .c1_011100 dest jump => encodeC 0b1_011100#7 dest jump
  | .c1_011101 dest jump => encodeC 0b1_011101#7 dest jump
  | .c1_011110 dest jump => encodeC 0b1_011110#7 dest jump
  | .c1_011111 dest jump => encodeC 0b1_011111#7 dest jump
  | .c1_100000 dest jump => encodeC 0b1_100000#7 dest jump
  | .c1_100001 dest jump => encodeC 0b1_100001#7 dest jump
  | .c1_100010 dest jump => encodeC 0b1_100010#7 dest jump
  | .c1_100011 dest jump => encodeC 0b1_100011#7 dest jump
  | .c1_100100 dest jump => encodeC 0b1_100100#7 dest jump
  | .c1_100101 dest jump => encodeC 0b1_100101#7 dest jump
  | .c1_100110 dest jump => encodeC 0b1_100110#7 dest jump
  | .c1_100111 dest jump => encodeC 0b1_100111#7 dest jump
  | .c1_101000 dest jump => encodeC 0b1_101000#7 dest jump
  | .c1_101001 dest jump => encodeC 0b1_101001#7 dest jump
  | .c1_101010 dest jump => encodeC 0b1_101010#7 dest jump
  | .c1_101011 dest jump => encodeC 0b1_101011#7 dest jump
  | .c1_101100 dest jump => encodeC 0b1_101100#7 dest jump
  | .c1_101101 dest jump => encodeC 0b1_101101#7 dest jump
  | .c1_101110 dest jump => encodeC 0b1_101110#7 dest jump
  | .c1_101111 dest jump => encodeC 0b1_101111#7 dest jump
  | .copyM dest jump => encodeC 0b1_110000#7 dest jump
  | .notM dest jump => encodeC 0b1_110001#7 dest jump
  | .decM dest jump => encodeC 0b1_110010#7 dest jump
  | .negM dest jump => encodeC 0b1_110011#7 dest jump
  | .c1_110100 dest jump => encodeC 0b1_110100#7 dest jump
  | .c1_110101 dest jump => encodeC 0b1_110101#7 dest jump
  | .c1_110110 dest jump => encodeC 0b1_110110#7 dest jump
  | .incM dest jump => encodeC 0b1_110111#7 dest jump
  | .c1_111000 dest jump => encodeC 0b1_111000#7 dest jump
  | .c1_111001 dest jump => encodeC 0b1_111001#7 dest jump
  | .c1_111010 dest jump => encodeC 0b1_111010#7 dest jump
  | .c1_111011 dest jump => encodeC 0b1_111011#7 dest jump
  | .c1_111100 dest jump => encodeC 0b1_111100#7 dest jump
  | .c1_111101 dest jump => encodeC 0b1_111101#7 dest jump
  | .c1_111110 dest jump => encodeC 0b1_111110#7 dest jump
  | .c1_111111 dest jump => encodeC 0b1_111111#7 dest jump

/-- The "mask" of an instruction's row of spec/opcode_table.json: the bits its row fixes. -/
def rowMask (i : Instr) : Word :=
  match i with
  | .atValue _ => 0x8000#16
  | .andDA _ _ => 0x9FC0#16
  | .c0_000001 _ _ => 0x9FC0#16
  | .addDA _ _ => 0x9FC0#16
  | .c0_000011 _ _ => 0x9FC0#16
  | .c0_000100 _ _ => 0x9FC0#16
  | .c0_000101 _ _ => 0x9FC0#16
  | .c0_000110 _ _ => 0x9FC0#16
  | .subAD _ _ => 0x9FC0#16
  | .c0_001000 _ _ => 0x9FC0#16
  | .c0_001001 _ _ => 0x9FC0#16
  | .c0_001010 _ _ => 0x9FC0#16
  | .c0_001011 _ _ => 0x9FC0#16
  | .copyD _ _ => 0x9FC0#16
  | .notD _ _ => 0x9FC0#16
  | .decD _ _ => 0x9FC0#16
  | .negD _ _ => 0x9FC0#16
  | .c0_010000 _ _ => 0x9FC0#16
  | .c0_010001 _ _ => 0x9FC0#16
  | .c0_010010 _ _ => 0x9FC0#16
  | .subDA _ _ => 0x9FC0#16
  | .c0_010100 _ _ => 0x9FC0#16
  | .orDA _ _ => 0x9FC0#16
  | .c0_010110 _ _ => 0x9FC0#16
  | .c0_010111 _ _ => 0x9FC0#16
  | .c0_011000 _ _ => 0x9FC0#16
  | .c0_011001 _ _ => 0x9FC0#16
  | .c0_011010 _ _ => 0x9FC0#16
  | .c0_011011 _ _ => 0x9FC0#16
  | .c0_011100 _ _ => 0x9FC0#16
  | .c0_011101 _ _ => 0x9FC0#16
  | .c0_011110 _ _ => 0x9FC0#16
  | .incD _ _ => 0x9FC0#16
  | .c0_100000 _ _ => 0x9FC0#16
  | .c0_100001 _ _ => 0x9FC0#16
  | .c0_100010 _ _ => 0x9FC0#16
  | .c0_100011 _ _ => 0x9FC0#16
  | .c0_100100 _ _ => 0x9FC0#16
  | .c0_100101 _ _ => 0x9FC0#16
  | .c0_100110 _ _ => 0x9FC0#16
  | .c0_100111 _ _ => 0x9FC0#16
  | .c0_101000 _ _ => 0x9FC0#16
  | .c0_101001 _ _ => 0x9FC0#16
  | .const0 _ _ => 0x9FC0#16
  | .c0_101011 _ _ => 0x9FC0#16
  | .c0_101100 _ _ => 0x9FC0#16
  | .c0_101101 _ _ => 0x9FC0#16
  | .c0_101110 _ _ => 0x9FC0#16
  | .c0_101111 _ _ => 0x9FC0#16
  | .copyA _ _ => 0x9FC0#16
  | .notA _ _ => 0x9FC0#16
  | .decA _ _ => 0x9FC0#16
  | .negA _ _ => 0x9FC0#16
  | .c0_110100 _ _ => 0x9FC0#16
  | .c0_110101 _ _ => 0x9FC0#16
  | .c0_110110 _ _ => 0x9FC0#16
  | .incA _ _ => 0x9FC0#16
  | .c0_111000 _ _ => 0x9FC0#16
  | .c0_111001 _ _ => 0x9FC0#16
  | .constMinus1 _ _ => 0x9FC0#16
  | .c0_111011 _ _ => 0x9FC0#16
  | .c0_111100 _ _ => 0x9FC0#16
  | .c0_111101 _ _ => 0x9FC0#16
  | .c0_111110 _ _ => 0x9FC0#16
  | .const1 _ _ => 0x9FC0#16
  | .andDM _ _ => 0x9FC0#16
  | .c1_000001 _ _ => 0x9FC0#16
  | .addDM _ _ => 0x9FC0#16
  | .c1_000011 _ _ => 0x9FC0#16
  | .c1_000100 _ _ => 0x9FC0#16
  | .c1_000101 _ _ => 0x9FC0#16
  | .c1_000110 _ _ => 0x9FC0#16
  | .subMD _ _ => 0x9FC0#16
  | .c1_001000 _ _ => 0x9FC0#16
  | .c1_001001 _ _ => 0x9FC0#16
  | .c1_001010 _ _ => 0x9FC0#16
  | .c1_001011 _ _ => 0x9FC0#16
  | .c1_001100 _ _ => 0x9FC0#16
  | .c1_001101 _ _ => 0x9FC0#16
  | .c1_001110 _ _ => 0x9FC0#16
  | .c1_001111 _ _ => 0x9FC0#16
  | .c1_010000 _ _ => 0x9FC0#16
  | .c1_010001 _ _ => 0x9FC0#16
  | .c1_010010 _ _ => 0x9FC0#16
  | .subDM _ _ => 0x9FC0#16
  | .c1_010100 _ _ => 0x9FC0#16
  | .orDM _ _ => 0x9FC0#16
  | .c1_010110 _ _ => 0x9FC0#16
  | .c1_010111 _ _ => 0x9FC0#16
  | .c1_011000 _ _ => 0x9FC0#16
  | .c1_011001 _ _ => 0x9FC0#16
  | .c1_011010 _ _ => 0x9FC0#16
  | .c1_011011 _ _ => 0x9FC0#16
  | .c1_011100 _ _ => 0x9FC0#16
  | .c1_011101 _ _ => 0x9FC0#16
  | .c1_011110 _ _ => 0x9FC0#16
  | .c1_011111 _ _ => 0x9FC0#16
  | .c1_100000 _ _ => 0x9FC0#16
  | .c1_100001 _ _ => 0x9FC0#16
  | .c1_100010 _ _ => 0x9FC0#16
  | .c1_100011 _ _ => 0x9FC0#16
  | .c1_100100 _ _ => 0x9FC0#16
  | .c1_100101 _ _ => 0x9FC0#16
  | .c1_100110 _ _ => 0x9FC0#16
  | .c1_100111 _ _ => 0x9FC0#16
  | .c1_101000 _ _ => 0x9FC0#16
  | .c1_101001 _ _ => 0x9FC0#16
  | .c1_101010 _ _ => 0x9FC0#16
  | .c1_101011 _ _ => 0x9FC0#16
  | .c1_101100 _ _ => 0x9FC0#16
  | .c1_101101 _ _ => 0x9FC0#16
  | .c1_101110 _ _ => 0x9FC0#16
  | .c1_101111 _ _ => 0x9FC0#16
  | .copyM _ _ => 0x9FC0#16
  | .notM _ _ => 0x9FC0#16
  | .decM _ _ => 0x9FC0#16
  | .negM _ _ => 0x9FC0#16
  | .c1_110100 _ _ => 0x9FC0#16
  | .c1_110101 _ _ => 0x9FC0#16
  | .c1_110110 _ _ => 0x9FC0#16
  | .incM _ _ => 0x9FC0#16
  | .c1_111000 _ _ => 0x9FC0#16
  | .c1_111001 _ _ => 0x9FC0#16
  | .c1_111010 _ _ => 0x9FC0#16
  | .c1_111011 _ _ => 0x9FC0#16
  | .c1_111100 _ _ => 0x9FC0#16
  | .c1_111101 _ _ => 0x9FC0#16
  | .c1_111110 _ _ => 0x9FC0#16
  | .c1_111111 _ _ => 0x9FC0#16

/-- The "match" of an instruction's row of spec/opcode_table.json: the values of the fixed bits. -/
def rowMatch (i : Instr) : Word :=
  match i with
  | .atValue _ => 0x0000#16
  | .andDA _ _ => 0x8000#16
  | .c0_000001 _ _ => 0x8040#16
  | .addDA _ _ => 0x8080#16
  | .c0_000011 _ _ => 0x80C0#16
  | .c0_000100 _ _ => 0x8100#16
  | .c0_000101 _ _ => 0x8140#16
  | .c0_000110 _ _ => 0x8180#16
  | .subAD _ _ => 0x81C0#16
  | .c0_001000 _ _ => 0x8200#16
  | .c0_001001 _ _ => 0x8240#16
  | .c0_001010 _ _ => 0x8280#16
  | .c0_001011 _ _ => 0x82C0#16
  | .copyD _ _ => 0x8300#16
  | .notD _ _ => 0x8340#16
  | .decD _ _ => 0x8380#16
  | .negD _ _ => 0x83C0#16
  | .c0_010000 _ _ => 0x8400#16
  | .c0_010001 _ _ => 0x8440#16
  | .c0_010010 _ _ => 0x8480#16
  | .subDA _ _ => 0x84C0#16
  | .c0_010100 _ _ => 0x8500#16
  | .orDA _ _ => 0x8540#16
  | .c0_010110 _ _ => 0x8580#16
  | .c0_010111 _ _ => 0x85C0#16
  | .c0_011000 _ _ => 0x8600#16
  | .c0_011001 _ _ => 0x8640#16
  | .c0_011010 _ _ => 0x8680#16
  | .c0_011011 _ _ => 0x86C0#16
  | .c0_011100 _ _ => 0x8700#16
  | .c0_011101 _ _ => 0x8740#16
  | .c0_011110 _ _ => 0x8780#16
  | .incD _ _ => 0x87C0#16
  | .c0_100000 _ _ => 0x8800#16
  | .c0_100001 _ _ => 0x8840#16
  | .c0_100010 _ _ => 0x8880#16
  | .c0_100011 _ _ => 0x88C0#16
  | .c0_100100 _ _ => 0x8900#16
  | .c0_100101 _ _ => 0x8940#16
  | .c0_100110 _ _ => 0x8980#16
  | .c0_100111 _ _ => 0x89C0#16
  | .c0_101000 _ _ => 0x8A00#16
  | .c0_101001 _ _ => 0x8A40#16
  | .const0 _ _ => 0x8A80#16
  | .c0_101011 _ _ => 0x8AC0#16
  | .c0_101100 _ _ => 0x8B00#16
  | .c0_101101 _ _ => 0x8B40#16
  | .c0_101110 _ _ => 0x8B80#16
  | .c0_101111 _ _ => 0x8BC0#16
  | .copyA _ _ => 0x8C00#16
  | .notA _ _ => 0x8C40#16
  | .decA _ _ => 0x8C80#16
  | .negA _ _ => 0x8CC0#16
  | .c0_110100 _ _ => 0x8D00#16
  | .c0_110101 _ _ => 0x8D40#16
  | .c0_110110 _ _ => 0x8D80#16
  | .incA _ _ => 0x8DC0#16
  | .c0_111000 _ _ => 0x8E00#16
  | .c0_111001 _ _ => 0x8E40#16
  | .constMinus1 _ _ => 0x8E80#16
  | .c0_111011 _ _ => 0x8EC0#16
  | .c0_111100 _ _ => 0x8F00#16
  | .c0_111101 _ _ => 0x8F40#16
  | .c0_111110 _ _ => 0x8F80#16
  | .const1 _ _ => 0x8FC0#16
  | .andDM _ _ => 0x9000#16
  | .c1_000001 _ _ => 0x9040#16
  | .addDM _ _ => 0x9080#16
  | .c1_000011 _ _ => 0x90C0#16
  | .c1_000100 _ _ => 0x9100#16
  | .c1_000101 _ _ => 0x9140#16
  | .c1_000110 _ _ => 0x9180#16
  | .subMD _ _ => 0x91C0#16
  | .c1_001000 _ _ => 0x9200#16
  | .c1_001001 _ _ => 0x9240#16
  | .c1_001010 _ _ => 0x9280#16
  | .c1_001011 _ _ => 0x92C0#16
  | .c1_001100 _ _ => 0x9300#16
  | .c1_001101 _ _ => 0x9340#16
  | .c1_001110 _ _ => 0x9380#16
  | .c1_001111 _ _ => 0x93C0#16
  | .c1_010000 _ _ => 0x9400#16
  | .c1_010001 _ _ => 0x9440#16
  | .c1_010010 _ _ => 0x9480#16
  | .subDM _ _ => 0x94C0#16
  | .c1_010100 _ _ => 0x9500#16
  | .orDM _ _ => 0x9540#16
  | .c1_010110 _ _ => 0x9580#16
  | .c1_010111 _ _ => 0x95C0#16
  | .c1_011000 _ _ => 0x9600#16
  | .c1_011001 _ _ => 0x9640#16
  | .c1_011010 _ _ => 0x9680#16
  | .c1_011011 _ _ => 0x96C0#16
  | .c1_011100 _ _ => 0x9700#16
  | .c1_011101 _ _ => 0x9740#16
  | .c1_011110 _ _ => 0x9780#16
  | .c1_011111 _ _ => 0x97C0#16
  | .c1_100000 _ _ => 0x9800#16
  | .c1_100001 _ _ => 0x9840#16
  | .c1_100010 _ _ => 0x9880#16
  | .c1_100011 _ _ => 0x98C0#16
  | .c1_100100 _ _ => 0x9900#16
  | .c1_100101 _ _ => 0x9940#16
  | .c1_100110 _ _ => 0x9980#16
  | .c1_100111 _ _ => 0x99C0#16
  | .c1_101000 _ _ => 0x9A00#16
  | .c1_101001 _ _ => 0x9A40#16
  | .c1_101010 _ _ => 0x9A80#16
  | .c1_101011 _ _ => 0x9AC0#16
  | .c1_101100 _ _ => 0x9B00#16
  | .c1_101101 _ _ => 0x9B40#16
  | .c1_101110 _ _ => 0x9B80#16
  | .c1_101111 _ _ => 0x9BC0#16
  | .copyM _ _ => 0x9C00#16
  | .notM _ _ => 0x9C40#16
  | .decM _ _ => 0x9C80#16
  | .negM _ _ => 0x9CC0#16
  | .c1_110100 _ _ => 0x9D00#16
  | .c1_110101 _ _ => 0x9D40#16
  | .c1_110110 _ _ => 0x9D80#16
  | .incM _ _ => 0x9DC0#16
  | .c1_111000 _ _ => 0x9E00#16
  | .c1_111001 _ _ => 0x9E40#16
  | .c1_111010 _ _ => 0x9E80#16
  | .c1_111011 _ _ => 0x9EC0#16
  | .c1_111100 _ _ => 0x9F00#16
  | .c1_111101 _ _ => 0x9F40#16
  | .c1_111110 _ _ => 0x9F80#16
  | .c1_111111 _ _ => 0x9FC0#16

/-- The instruction of an opcode-table word of `nbits` bits: every instruction is one 16-bit word (R80), so a
word of more bits is none; the bits above `nbits` are 0 (log entry 17). -/
def decodeTableWord (nbits w : Nat) : Option Instr :=
  if nbits ≤ 16 then some (decode (BitVec.ofNat 16 (w % 2 ^ nbits))) else none

end Sys2Proof
end

