-- ==== Sys2Proof/Machine/Alu.lean ====
section
/-! DEFINITION. The ALU as a contract (spec/41_alu.md R120, R121). -/

namespace Sys2Proof.Machine

/-- The preprocessing of one operand: zero it if `z`, then complement it if `n` (R121; the complement is
bitwise, log entry 12). -/
def aluOperand (z n : Bool) (v : Word) : Word :=
  let v1 := if z then 0x0000#16 else v
  if n then ~~~v1 else v1

/-- The ALU's result: preprocess `x` by `zx nx` and `y` by `zy ny`, add modulo 2^16 if `f` or else AND,
complement if `no` (R121). `c` holds `zx nx zy ny f no`, `zx` its bit 5 (R83). -/
def alu (x y : Word) (c : AluCode) : Word :=
  let x2 := aluOperand (c.getLsbD 5) (c.getLsbD 4) x
  let y2 := aluOperand (c.getLsbD 3) (c.getLsbD 2) y
  let r := if c.getLsbD 1 then x2 + y2 else x2 &&& y2
  if c.getLsbD 0 then ~~~r else r

end Sys2Proof.Machine
end

