-- ==== Sys2Proof/Machine/Bits.lean ====
section
/-! DEFINITION. The bit-field notation of spec/00_scope.md section 5. -/

namespace Sys2Proof.Machine

/-- `low15(v)`: bits 14 to 0 of a word. -/
def low15 (v : Word) : Addr15 := v.setWidth 15

/-- `zext_16(v)`: a 15-bit value with a zero bit 15. -/
def zext16 (v : Addr15) : Word := v.setWidth 16

/-- `sint(v)`: the two's-complement value of a word. -/
def sint (v : Word) : Int := v.toInt

end Sys2Proof.Machine
end

