-- ==== Sys2Proof/Machine/Flags.lean ====
section
/-! DEFINITION. The two ALU flags (spec/41_alu.md R122) and the jump decision (spec/45_control_decode.md
R258). Neither is stored (R31). -/

namespace Sys2Proof.Machine

/-- `zr`: 1 iff the result is all zero (R122). -/
def zr (out : Word) : Bool := out == 0x0000#16

/-- `ng`: bit 15 of the result (R122). -/
def ng (out : Word) : Bool := out.getLsbD 15

/-- `jumpDecision = (j1 AND ng) OR (j2 AND zr) OR (j3 AND NOT zr AND NOT ng)` (R258), for any two flags; the
pair `zr = ng = 1` no result gives (R32, R262; log entry 13). -/
def jumpDecision (j : Jump) (zero negative : Bool) : Bool :=
  (j.j1 && negative) || (j.j2 && zero) || (j.j3 && !zero && !negative)

/-- The jump decision on the result of the same cycle (R272). -/
def jumpTaken (j : Jump) (out : Word) : Bool := jumpDecision j (zr out) (ng out)

end Sys2Proof.Machine
end

