-- ==== Sys2Proof/Config.lean ====
section
/-! DEFINITION. What the spec leaves to the launch of a machine, and its one free value. -/

namespace Sys2Proof

/-- What a byte reads as that the memory list does not list.
DESIGN CHOICE (unsafe, log entries 1 and 5): the spec gives power-on memory no value (R40, R225). Every
content of a memory is some state's memory, so a statement over all states does not rest on it. -/
def Config.unlistedByte : Byte := 0x00#8

/-- The A register of `State.reset`. DESIGN CHOICE (unsafe, log entry 2): the spec gives none (R40, R354). -/
def Config.resetA : Word := 0x0000#16

/-- The D register of `State.reset`. DESIGN CHOICE (unsafe, log entry 2): the spec gives none (R40, R354). -/
def Config.resetD : Word := 0x0000#16

/-- The data memory's address width in `State.reset`: the recommended 14 (R302).
DESIGN CHOICE (log entry 4): the spec leaves the width open between 0 and 15. -/
def Config.recommendedMemW : Fin 16 := 14

/-- The fan-out widths, from the top, of the chain of blocks RAM8 to RAM16K (R218). -/
def Config.ram16kFanOuts : List Nat := [2, 3, 3, 3, 3]

/-- FREE VALUE (log entry 11): what the wire `inM` carries in a cycle that does not use memory and whose
address no memory word backs; R305 says "any value". It has no body, so nothing can be proved of it. -/
opaque Config.unbackedInM : Addr15 → Word

end Sys2Proof
end

