-- ==== Sys2Proof/Machine/State.lean ====
section
/-! DEFINITION. The state of the machine (spec/10_state.md R20, spec/47_system.md R304), the one fault,
the refusals, and the state after reset. -/

namespace Sys2Proof.Machine

/-- A store of words as a list of (byte address, byte): word `a` is the bytes `2a` (low half) and `2a + 1`
(high half). The hardware has no bytes, and which half lies lower cannot be observed (R50, R51; log entry 7).
The canonical form is `Memory.wf` of Memory.lean. -/
abbrev Memory := List Host.Cell

/-- The state of the machine: `(A, D, PC, mem)` (R20, R304), and the machine's two parameters and its one
input, which the model carries in the state (log entries 4, 5, 6). -/
structure State where
  /-- the A register (R22, R23) -/
  a : Word
  /-- the D register (R22, R25) -/
  d : Word
  /-- the program counter (R28) -/
  pc : Addr15
  /-- the data memory DMEM, `2 ^ memW` words (R36, R210, R304) -/
  mem : Memory
  /-- the instruction store IMEM, a parameter fixed for a run (R301); the model's own field, log entry 5 -/
  imem : Memory
  /-- the data memory's address width MEM_W, a parameter, 0 to 15 (R302); the model's own field, log entry 4 -/
  memW : Fin 16
  /-- the input `reset` of the coming cycles, this cycle's first, 0 once the list is used up (R304, R309,
  R350); the model's own field, log entry 6 -/
  resets : List Bool
  deriving DecidableEq, Repr

/-- How the machine stops with a fault. -/
inductive Fault where
  /-- `OutOfRange(addr)` (R306): raised by a C-instruction that reads or writes M (a = 1 or d3 = 1) when
  `low15(A)` is not below `2 ^ MEM_W`, before anything commits. Safe: nothing is claimed of the hardware there. -/
  | outOfRange (addr : Addr15)
  deriving DecidableEq, Repr

/-- How the model refuses an instruction. -/
inductive Refusal where
  /-- An instruction of the table without a meaning: raised by no arm of `exec`, since every row has its
  meaning. Safe. -/
  | notModelled (mnemonic : String)
  deriving DecidableEq, Repr

/-- What a step or a meaning answers. -/
abbrev Result := Host.Outcome State Fault Refusal

/-- The machine right after reset: the cycle with `reset = 1` has ended and `reset` is released (R308), so
`PC = 0` (R42, R43, R354). The spec gives no value to A, D and memory (log entries 1, 2), leaves IMEM and
MEM_W open (log entries 4, 5), and `reset` stays 0 (log entry 6). -/
def State.reset : State where
  a := Config.resetA
  d := Config.resetD
  pc := 0#15
  mem := []
  imem := []
  memW := Config.recommendedMemW
  resets := []

end Sys2Proof.Machine
end

