-- ==== Sys2Proof/Machine/Memory.lean ====
section
/-! DEFINITION. Reading and writing the stores of words (spec/20_memory.md, spec/43_memory_block.md R212,
R213), kept as a list of byte cells in one canonical form (log entry 7). -/

namespace Sys2Proof.Machine

/-- The byte at a byte address: the listed one, or what an unlisted byte reads as (log entry 1). -/
def Memory.readByte (m : Memory) (k : Nat) : Byte :=
  match m with
  | [] => Config.unlistedByte
  | (k', v) :: rest => if k = k' then v else Memory.readByte rest k

/-- The list with one cell put in its place, in place of the cell at that address if there is one. -/
def Memory.insertCell (m : Memory) (k : Nat) (v : Byte) : Memory :=
  match m with
  | [] => [(k, v)]
  | (k', v') :: rest =>
    if k < k' then (k, v) :: (k', v') :: rest
    else if k = k' then (k, v) :: rest
    else (k', v') :: Memory.insertCell rest k v

/-- One byte written: the value an unlisted byte reads as removes the cell, so that equal stores are equal
lists. -/
def Memory.writeByte (m : Memory) (k : Nat) (v : Byte) : Memory :=
  if v = Config.unlistedByte then m.filter (fun c => c.1 ≠ k) else Memory.insertCell m k v

/-- `MemRead(a, 1)`: the 16-bit word at a word address, its low half at byte address `2a` (R53, R212). -/
def Memory.readWord (m : Memory) (a : Addr15) : Word :=
  Memory.readByte m (2 * a.toNat + 1) ++ Memory.readByte m (2 * a.toNat)

/-- `MemWrite(a, 1, v)`: the word at `a` becomes `v`, no other word changes (R54, R213). -/
def Memory.writeWord (m : Memory) (a : Addr15) (v : Word) : Memory :=
  Memory.writeByte (Memory.writeByte m (2 * a.toNat) (v.extractLsb' 0 8)) (2 * a.toNat + 1) (v.extractLsb' 8 8)

/-- The canonical form: addresses strictly rising, no cell equal to what an unlisted byte reads as. -/
def Memory.wf (m : Memory) : Bool :=
  match m with
  | [] => true
  | (k, v) :: rest => v != Config.unlistedByte && rest.all (fun c => k < c.1) && Memory.wf rest

/-- No cell lies outside a store of `2 ^ w` words. -/
def Memory.within (m : Memory) (w : Nat) : Bool := m.all (fun c => c.1 < 2 * 2 ^ w)

end Sys2Proof.Machine
end

