-- ==== Sys2Proof/Machine/Operands.lean ====
section
/-! DEFINITION. The operand forms of a C-instruction (spec/30_encoding.md R85) and its memory address. -/

namespace Sys2Proof.Machine

/-- `addressM`: the data address, the low 15 bits of the current A (R283, R290). -/
def addressM (s : State) : Addr15 := low15 s.a

/-- The data memory has a word at `low15(A)` (R59, R302, R306). -/
def backed (s : State) : Bool := (addressM s).toNat < 2 ^ s.memW.val

/-- The instruction uses M: it reads it (a = 1) or writes it (d3 = 1) (R305, R306). -/
def usesM (y : YSource) (dest : Dest) : Bool := y == .memM || dest.d3

/-- The first operand: the D register, in every instruction (R244; log entry 12). -/
def operandX (s : State) : Word := s.d

/-- The second operand: A, or the data-memory word at `low15(A)` as it is before the edge (R56, R245). -/
def operandY (y : YSource) (s : State) : Word :=
  match y with
  | .regA => s.a
  | .memM => s.mem.readWord (addressM s)

end Sys2Proof.Machine
end

