-- ==== Sys2Proof/Machine/Gates.lean ====
section
/-! DEFINITION. The primitives taken as given (spec/00_scope.md R12, R13, R14). -/

namespace Sys2Proof.Machine

/-- `Not` (R12). -/
def gateNot (a : Bool) : Bool := !a

/-- `And` (R12). -/
def gateAnd (a b : Bool) : Bool := a && b

/-- `Or` (R12). -/
def gateOr (a b : Bool) : Bool := a || b

/-- `Xor` (R12): 1 iff exactly one is 1. -/
def gateXor (a b : Bool) : Bool := a ^^ b

/-- `Not16`: the gate at each bit position (R12). -/
def gateNot16 (a : Word) : Word := ~~~a

/-- `And16`: the gate at each bit position (R12). -/
def gateAnd16 (a b : Word) : Word := a &&& b

/-- `Or16`: the gate at each bit position (R12). -/
def gateOr16 (a b : Word) : Word := a ||| b

/-- `Mux(a, b, sel)`: `a` if `sel = 0`, `b` if `sel = 1`; `Mux16` on words (R13). -/
def mux {α : Type} (a b : α) (sel : Bool) : α := if sel then b else a

/-- `MuxN`: input number `sel` of the `2 ^ k` inputs, counted from 0 (R13; log entry 16). -/
def muxN {α : Type} {k : Nat} (inputs : BitVec k → α) (sel : BitVec k) : α := inputs sel

/-- Output `i` of `DMuxN(inp, sel)`: `inp` where `i = sel`, 0 elsewhere (R14; log entry 16). -/
def dmuxN {k : Nat} (inp : Bool) (sel i : BitVec k) : Bool := if i = sel then inp else false

end Sys2Proof.Machine
end

