-- ==== Sys2Proof/Machine/Cells.lean ====
section
/-! DEFINITION. The clocked storage cell (spec/40_clocked_storage.md). A cell's output in a cycle is its
state, whatever the inputs of that cycle (R110, R112); its next state is given here. -/

namespace Sys2Proof.Machine

/-- The one-bit cell's next state: `inp` if `load = 1`, else the state (R110, R111). -/
def bitCellNext (load inp s : Bool) : Bool := if load then inp else s

/-- The register's next state, all bits at one edge (R112); width 16 for A, D and the leaves of a memory
block, width 15 for the program counter (R113). -/
def registerNext {n : Nat} (load : Bool) (inp s : BitVec n) : BitVec n := if load then inp else s

/-- The register as `n` one-bit cells that share one `load` (R112). -/
def registerNextOfCells {n : Nat} (load : Bool) (inp s : BitVec n) : BitVec n :=
  BitVec.ofFnLE fun i => bitCellNext load (inp.getLsbD i) (s.getLsbD i)

end Sys2Proof.Machine
end

