-- ==== Sys2Proof/Machine/Incrementer.lean ====
section
/-! DEFINITION. The 16-bit incrementer (spec/42_incrementer.md). -/

namespace Sys2Proof.Machine

/-- The incrementer: `(v + 1) mod 2^16`, no carry in, no carry out (R200, R201). -/
def increment (v : Word) : Word := v + 1#16

/-- The carry `c[i + 1]` of the ripple chain: `c[1] = in[0]`, then `c[i + 1] = And(in[i], c[i])` (R202). -/
def rippleCarry (v : Word) : Nat → Bool
  | 0 => v.getLsbD 0
  | i + 1 => gateAnd (v.getLsbD (i + 1)) (rippleCarry v i)

/-- Bit `i` of the ripple chain's output: `Not(in[0])`, then `Xor(in[i], c[i])` (R202). -/
def rippleBit (v : Word) : Nat → Bool
  | 0 => gateNot (v.getLsbD 0)
  | i + 1 => gateXor (v.getLsbD (i + 1)) (rippleCarry v i)

/-- The incrementer as the ripple chain of R202; an illustration in the spec, equal to `increment`
(log entry 16). -/
def rippleIncrement (v : Word) : Word := BitVec.ofFnLE fun i => rippleBit v i

end Sys2Proof.Machine
end

