-- ==== Sys2Proof/Machine/ProgramCounter.lean ====
section
/-! DEFINITION. The program counter (spec/44_program_counter.md). -/

namespace Sys2Proof.Machine

/-- The incremented counter: the 16-bit incrementer on the counter with a zero bit 15, low 15 bits kept
(R203, R232; log entry 14). -/
def pcIncrement (pc : Addr15) : Addr15 := low15 (increment (zext16 pc))

/-- The counter's next value: `reset` first, then a load of the low 15 bits of the load value, else the
increment (R231, R233). -/
def pcNext (reset load : Bool) (inp : Word) (pc : Addr15) : Addr15 :=
  if reset then 0#15 else if load then low15 inp else pcIncrement pc

/-- The counter built from a 16-bit register that always loads, the incrementer and two multiplexers (R235);
an illustration in the spec (log entry 16). -/
def pcRegisterNext (reset load : Bool) (inp r : Word) : Word :=
  registerNext true (mux (mux (increment r) inp load) 0x0000#16 reset) r

/-- The output of that construction: the low 15 bits of the register (R235). -/
def pcRegisterOut (r : Word) : Addr15 := low15 r

end Sys2Proof.Machine
end

