-- ==== Sys2Proof/Machine/Ops.lean ====
section
/-! DEFINITION. The operations the meanings share: the cycle's input, the fetch, the write-back of a
C-instruction (spec/46_cpu.md R286), the end of a cycle.

There is no operation for taking an exception and none for returning from one: the hardware has no exception,
interrupt or trap, no mode, and no register that one would be saved in (spec/60_exceptions.md R320, R322, R324,
R325, R327). `reset` is the nearest thing; it acts on the program counter alone, through `pcNext` (R324). -/

namespace Sys2Proof.Machine

/-- The input `reset` in this cycle (R350; log entry 6). -/
def resetNow (s : State) : Bool := s.resets.headD false

/-- The instruction word of this cycle: `IMEM[pc]` (R301). -/
def fetchWord (s : State) : Word := s.imem.readWord s.pc

/-- The state with a word at an address of the instruction store: how a program is placed before a run
(log entry 5). No instruction does this (R65). -/
def loadWord (s : State) (p : Addr15) (w : Word) : State := { s with imem := s.imem.writeWord p w }

/-- The clock edge of an A-instruction: A takes the literal with a zero bit 15, the program counter advances or
is reset, nothing else changes (R284). -/
def writeLiteral (value : Addr15) (s : State) : State :=
  { s with a := zext16 value, pc := pcNext (resetNow s) false s.a s.pc }

/-- The clock edge of a C-instruction with result `out`: each destination whose bit is set takes `out`, memory
at the old `low15(A)`; the program counter is reset, or takes the low 15 bits of the old A if the jump is taken,
or advances (R249, R286, R287). `reset` does not suppress the writes (R291; log entry 15). -/
def writeBack (dest : Dest) (jump : Jump) (out : Word) (s : State) : State :=
  { s with
    a := if dest.d1 then out else s.a
    d := if dest.d2 then out else s.d
    mem := if dest.d3 then s.mem.writeWord (addressM s) out else s.mem
    pc := pcNext (resetNow s) (jumpTaken jump out) s.a s.pc }

/-- A C-instruction (R286): second operand `y`, ALU code `c`. If it uses M and the data memory has no word at
`low15(A)` it faults before anything commits, before `reset` too (R305, R306, R323); the check looks at `a` and
`d3` alone, not at whether the result depends on M. -/
def computeC (y : YSource) (c : AluCode) (dest : Dest) (jump : Jump) (s : State) : Result :=
  if usesM y dest && !backed s then .fault (.outOfRange (addressM s))
  else .next (writeBack dest jump (alu (operandX s) (operandY y s) c) s)

/-- The end of the cycle for the harness: this cycle's `reset` is used up (R350; log entry 6). -/
def endCycle (s : State) : State := { s with resets := s.resets.tail }

/-- What a step answers, from what the meaning of the cycle's instruction answers. -/
def endCycleOf (r : Result) : Result :=
  match r with
  | .next s => .next (endCycle s)
  | .fault f => .fault f
  | .refused r => .refused r

end Sys2Proof.Machine
end

