-- ==== Sys2Proof/Machine/AInstr.lean ====
section
/-! DEFINITION. The meaning of the A-instruction (spec/46_cpu.md R284). -/

namespace Sys2Proof.Machine

/-- `@value`: A takes the literal, whatever A held; it uses no memory, so it never faults (R284, R307). The
ALU result of the cycle reaches no state (R285). -/
def execAtValue (value : Addr15) (s : State) : Result := .next (writeLiteral value s)

end Sys2Proof.Machine
end

