-- ==== Sys2Proof/Machine/CompA.lean ====
section
/-! DEFINITION. The meanings of the 64 C-instructions with a = 0: the second operand is the A register. Each
evaluates its own ALU code by the four steps of R121 (R123: no code is special-cased). -/

namespace Sys2Proof.Machine

/-- `dest=D&A;jump`: out = D&A (R130, R286). -/
def execAndDA (dest : Dest) (jump : Jump) (s : State) : Result :=
  computeC .regA 0b000000#6 dest jump s

/-- `dest=c[0,000001];jump`: out = ~(D&A) (R131, R286). -/
def execC0_000001 (dest : Dest) (jump : Jump) (s : State) : Result :=
  computeC .regA 0b000001#6 dest jump s

/-- `dest=D+A;jump`: out = D+A (R132, R286). -/
def execAddDA (dest : Dest) (jump : Jump) (s : State) : Result :=
  computeC .regA 0b000010#6 dest jump s

/-- `dest=c[0,000011];jump`: out = -D-A-1 (R133, R286). -/
def execC0_000011 (dest : Dest) (jump : Jump) (s : State) : Result :=
  computeC .regA 0b000011#6 dest jump s

/-- `dest=c[0,000100];jump`: out = D&~A (R134, R286). -/
def execC0_000100 (dest : Dest) (jump : Jump) (s : State) : Result :=
  computeC .regA 0b000100#6 dest jump s

/-- `dest=c[0,000101];jump`: out = ~D|A (R135, R286). -/
def execC0_000101 (dest : Dest) (jump : Jump) (s : State) : Result :=
  computeC .regA 0b000101#6 dest jump s

/-- `dest=c[0,000110];jump`: out = D-A-1 (R136, R286). -/
def execC0_000110 (dest : Dest) (jump : Jump) (s : State) : Result :=
  computeC .regA 0b000110#6 dest jump s

/-- `dest=A-D;jump`: out = A-D (R137, R286). -/
def execSubAD (dest : Dest) (jump : Jump) (s : State) : Result :=
  computeC .regA 0b000111#6 dest jump s

/-- `dest=c[0,001000];jump`: out = 0 (R138, R286). -/
def execC0_001000 (dest : Dest) (jump : Jump) (s : State) : Result :=
  computeC .regA 0b001000#6 dest jump s

/-- `dest=c[0,001001];jump`: out = -1 (R139, R286). -/
def execC0_001001 (dest : Dest) (jump : Jump) (s : State) : Result :=
  computeC .regA 0b001001#6 dest jump s

/-- `dest=c[0,001010];jump`: out = D (R140, R286). -/
def execC0_001010 (dest : Dest) (jump : Jump) (s : State) : Result :=
  computeC .regA 0b001010#6 dest jump s

/-- `dest=c[0,001011];jump`: out = ~D (R141, R286). -/
def execC0_001011 (dest : Dest) (jump : Jump) (s : State) : Result :=
  computeC .regA 0b001011#6 dest jump s

/-- `dest=D;jump`: out = D (R142, R286). -/
def execCopyD (dest : Dest) (jump : Jump) (s : State) : Result :=
  computeC .regA 0b001100#6 dest jump s

/-- `dest=!D;jump`: out = ~D (R143, R286). -/
def execNotD (dest : Dest) (jump : Jump) (s : State) : Result :=
  computeC .regA 0b001101#6 dest jump s

/-- `dest=D-1;jump`: out = D-1 (R144, R286). -/
def execDecD (dest : Dest) (jump : Jump) (s : State) : Result :=
  computeC .regA 0b001110#6 dest jump s

/-- `dest=-D;jump`: out = -D (R145, R286). -/
def execNegD (dest : Dest) (jump : Jump) (s : State) : Result :=
  computeC .regA 0b001111#6 dest jump s

/-- `dest=c[0,010000];jump`: out = ~D&A (R146, R286). -/
def execC0_010000 (dest : Dest) (jump : Jump) (s : State) : Result :=
  computeC .regA 0b010000#6 dest jump s

/-- `dest=c[0,010001];jump`: out = D|~A (R147, R286). -/
def execC0_010001 (dest : Dest) (jump : Jump) (s : State) : Result :=
  computeC .regA 0b010001#6 dest jump s

/-- `dest=c[0,010010];jump`: out = A-D-1 (R148, R286). -/
def execC0_010010 (dest : Dest) (jump : Jump) (s : State) : Result :=
  computeC .regA 0b010010#6 dest jump s

/-- `dest=D-A;jump`: out = D-A (R149, R286). -/
def execSubDA (dest : Dest) (jump : Jump) (s : State) : Result :=
  computeC .regA 0b010011#6 dest jump s

/-- `dest=c[0,010100];jump`: out = ~(D|A) (R150, R286). -/
def execC0_010100 (dest : Dest) (jump : Jump) (s : State) : Result :=
  computeC .regA 0b010100#6 dest jump s

/-- `dest=D|A;jump`: out = D|A (R151, R286). -/
def execOrDA (dest : Dest) (jump : Jump) (s : State) : Result :=
  computeC .regA 0b010101#6 dest jump s

/-- `dest=c[0,010110];jump`: out = -D-A-2 (R152, R286). -/
def execC0_010110 (dest : Dest) (jump : Jump) (s : State) : Result :=
  computeC .regA 0b010110#6 dest jump s

/-- `dest=c[0,010111];jump`: out = D+A+1 (R153, R286). -/
def execC0_010111 (dest : Dest) (jump : Jump) (s : State) : Result :=
  computeC .regA 0b010111#6 dest jump s

/-- `dest=c[0,011000];jump`: out = 0 (R154, R286). -/
def execC0_011000 (dest : Dest) (jump : Jump) (s : State) : Result :=
  computeC .regA 0b011000#6 dest jump s

/-- `dest=c[0,011001];jump`: out = -1 (R155, R286). -/
def execC0_011001 (dest : Dest) (jump : Jump) (s : State) : Result :=
  computeC .regA 0b011001#6 dest jump s

/-- `dest=c[0,011010];jump`: out = ~D (R156, R286). -/
def execC0_011010 (dest : Dest) (jump : Jump) (s : State) : Result :=
  computeC .regA 0b011010#6 dest jump s

/-- `dest=c[0,011011];jump`: out = D (R157, R286). -/
def execC0_011011 (dest : Dest) (jump : Jump) (s : State) : Result :=
  computeC .regA 0b011011#6 dest jump s

/-- `dest=c[0,011100];jump`: out = ~D (R158, R286). -/
def execC0_011100 (dest : Dest) (jump : Jump) (s : State) : Result :=
  computeC .regA 0b011100#6 dest jump s

/-- `dest=c[0,011101];jump`: out = D (R159, R286). -/
def execC0_011101 (dest : Dest) (jump : Jump) (s : State) : Result :=
  computeC .regA 0b011101#6 dest jump s

/-- `dest=c[0,011110];jump`: out = -D-2 (R160, R286). -/
def execC0_011110 (dest : Dest) (jump : Jump) (s : State) : Result :=
  computeC .regA 0b011110#6 dest jump s

/-- `dest=D+1;jump`: out = D+1 (R161, R286). -/
def execIncD (dest : Dest) (jump : Jump) (s : State) : Result :=
  computeC .regA 0b011111#6 dest jump s

/-- `dest=c[0,100000];jump`: out = 0 (R162, R286). -/
def execC0_100000 (dest : Dest) (jump : Jump) (s : State) : Result :=
  computeC .regA 0b100000#6 dest jump s

/-- `dest=c[0,100001];jump`: out = -1 (R163, R286). -/
def execC0_100001 (dest : Dest) (jump : Jump) (s : State) : Result :=
  computeC .regA 0b100001#6 dest jump s

/-- `dest=c[0,100010];jump`: out = A (R164, R286). -/
def execC0_100010 (dest : Dest) (jump : Jump) (s : State) : Result :=
  computeC .regA 0b100010#6 dest jump s

/-- `dest=c[0,100011];jump`: out = ~A (R165, R286). -/
def execC0_100011 (dest : Dest) (jump : Jump) (s : State) : Result :=
  computeC .regA 0b100011#6 dest jump s

/-- `dest=c[0,100100];jump`: out = 0 (R166, R286). -/
def execC0_100100 (dest : Dest) (jump : Jump) (s : State) : Result :=
  computeC .regA 0b100100#6 dest jump s

/-- `dest=c[0,100101];jump`: out = -1 (R167, R286). -/
def execC0_100101 (dest : Dest) (jump : Jump) (s : State) : Result :=
  computeC .regA 0b100101#6 dest jump s

/-- `dest=c[0,100110];jump`: out = ~A (R168, R286). -/
def execC0_100110 (dest : Dest) (jump : Jump) (s : State) : Result :=
  computeC .regA 0b100110#6 dest jump s

/-- `dest=c[0,100111];jump`: out = A (R169, R286). -/
def execC0_100111 (dest : Dest) (jump : Jump) (s : State) : Result :=
  computeC .regA 0b100111#6 dest jump s

/-- `dest=c[0,101000];jump`: out = 0 (R170, R286). -/
def execC0_101000 (dest : Dest) (jump : Jump) (s : State) : Result :=
  computeC .regA 0b101000#6 dest jump s

/-- `dest=c[0,101001];jump`: out = -1 (R171, R286). -/
def execC0_101001 (dest : Dest) (jump : Jump) (s : State) : Result :=
  computeC .regA 0b101001#6 dest jump s

/-- `dest=0;jump`: out = 0 (R172, R286). -/
def execConst0 (dest : Dest) (jump : Jump) (s : State) : Result :=
  computeC .regA 0b101010#6 dest jump s

/-- `dest=c[0,101011];jump`: out = -1 (R173, R286). -/
def execC0_101011 (dest : Dest) (jump : Jump) (s : State) : Result :=
  computeC .regA 0b101011#6 dest jump s

/-- `dest=c[0,101100];jump`: out = 0 (R174, R286). -/
def execC0_101100 (dest : Dest) (jump : Jump) (s : State) : Result :=
  computeC .regA 0b101100#6 dest jump s

/-- `dest=c[0,101101];jump`: out = -1 (R175, R286). -/
def execC0_101101 (dest : Dest) (jump : Jump) (s : State) : Result :=
  computeC .regA 0b101101#6 dest jump s

/-- `dest=c[0,101110];jump`: out = -1 (R176, R286). -/
def execC0_101110 (dest : Dest) (jump : Jump) (s : State) : Result :=
  computeC .regA 0b101110#6 dest jump s

/-- `dest=c[0,101111];jump`: out = 0 (R177, R286). -/
def execC0_101111 (dest : Dest) (jump : Jump) (s : State) : Result :=
  computeC .regA 0b101111#6 dest jump s

/-- `dest=A;jump`: out = A (R178, R286). -/
def execCopyA (dest : Dest) (jump : Jump) (s : State) : Result :=
  computeC .regA 0b110000#6 dest jump s

/-- `dest=!A;jump`: out = ~A (R179, R286). -/
def execNotA (dest : Dest) (jump : Jump) (s : State) : Result :=
  computeC .regA 0b110001#6 dest jump s

/-- `dest=A-1;jump`: out = A-1 (R180, R286). -/
def execDecA (dest : Dest) (jump : Jump) (s : State) : Result :=
  computeC .regA 0b110010#6 dest jump s

/-- `dest=-A;jump`: out = -A (R181, R286). -/
def execNegA (dest : Dest) (jump : Jump) (s : State) : Result :=
  computeC .regA 0b110011#6 dest jump s

/-- `dest=c[0,110100];jump`: out = ~A (R182, R286). -/
def execC0_110100 (dest : Dest) (jump : Jump) (s : State) : Result :=
  computeC .regA 0b110100#6 dest jump s

/-- `dest=c[0,110101];jump`: out = A (R183, R286). -/
def execC0_110101 (dest : Dest) (jump : Jump) (s : State) : Result :=
  computeC .regA 0b110101#6 dest jump s

/-- `dest=c[0,110110];jump`: out = -A-2 (R184, R286). -/
def execC0_110110 (dest : Dest) (jump : Jump) (s : State) : Result :=
  computeC .regA 0b110110#6 dest jump s

/-- `dest=A+1;jump`: out = A+1 (R185, R286). -/
def execIncA (dest : Dest) (jump : Jump) (s : State) : Result :=
  computeC .regA 0b110111#6 dest jump s

/-- `dest=c[0,111000];jump`: out = 0 (R186, R286). -/
def execC0_111000 (dest : Dest) (jump : Jump) (s : State) : Result :=
  computeC .regA 0b111000#6 dest jump s

/-- `dest=c[0,111001];jump`: out = -1 (R187, R286). -/
def execC0_111001 (dest : Dest) (jump : Jump) (s : State) : Result :=
  computeC .regA 0b111001#6 dest jump s

/-- `dest=-1;jump`: out = -1 (R188, R286). -/
def execConstMinus1 (dest : Dest) (jump : Jump) (s : State) : Result :=
  computeC .regA 0b111010#6 dest jump s

/-- `dest=c[0,111011];jump`: out = 0 (R189, R286). -/
def execC0_111011 (dest : Dest) (jump : Jump) (s : State) : Result :=
  computeC .regA 0b111011#6 dest jump s

/-- `dest=c[0,111100];jump`: out = -1 (R190, R286). -/
def execC0_111100 (dest : Dest) (jump : Jump) (s : State) : Result :=
  computeC .regA 0b111100#6 dest jump s

/-- `dest=c[0,111101];jump`: out = 0 (R191, R286). -/
def execC0_111101 (dest : Dest) (jump : Jump) (s : State) : Result :=
  computeC .regA 0b111101#6 dest jump s

/-- `dest=c[0,111110];jump`: out = -2 (R192, R286). -/
def execC0_111110 (dest : Dest) (jump : Jump) (s : State) : Result :=
  computeC .regA 0b111110#6 dest jump s

/-- `dest=1;jump`: out = 1 (R193, R286). -/
def execConst1 (dest : Dest) (jump : Jump) (s : State) : Result :=
  computeC .regA 0b111111#6 dest jump s

end Sys2Proof.Machine
end

