-- ==== Sys2Proof/Machine/CompM.lean ====
section
/-! DEFINITION. The meanings of the 64 C-instructions with a = 1: the second operand is the data-memory word at the low 15 bits of A. Each
evaluates its own ALU code by the four steps of R121 (R123: no code is special-cased). -/

namespace Sys2Proof.Machine

/-- `dest=D&M;jump`: out = D&M (R130, R286). -/
def execAndDM (dest : Dest) (jump : Jump) (s : State) : Result :=
  computeC .memM 0b000000#6 dest jump s

/-- `dest=c[1,000001];jump`: out = ~(D&M) (R131, R286). -/
def execC1_000001 (dest : Dest) (jump : Jump) (s : State) : Result :=
  computeC .memM 0b000001#6 dest jump s

/-- `dest=D+M;jump`: out = D+M (R132, R286). -/
def execAddDM (dest : Dest) (jump : Jump) (s : State) : Result :=
  computeC .memM 0b000010#6 dest jump s

/-- `dest=c[1,000011];jump`: out = -D-M-1 (R133, R286). -/
def execC1_000011 (dest : Dest) (jump : Jump) (s : State) : Result :=
  computeC .memM 0b000011#6 dest jump s

/-- `dest=c[1,000100];jump`: out = D&~M (R134, R286). -/
def execC1_000100 (dest : Dest) (jump : Jump) (s : State) : Result :=
  computeC .memM 0b000100#6 dest jump s

/-- `dest=c[1,000101];jump`: out = ~D|M (R135, R286). -/
def execC1_000101 (dest : Dest) (jump : Jump) (s : State) : Result :=
  computeC .memM 0b000101#6 dest jump s

/-- `dest=c[1,000110];jump`: out = D-M-1 (R136, R286). -/
def execC1_000110 (dest : Dest) (jump : Jump) (s : State) : Result :=
  computeC .memM 0b000110#6 dest jump s

/-- `dest=M-D;jump`: out = M-D (R137, R286). -/
def execSubMD (dest : Dest) (jump : Jump) (s : State) : Result :=
  computeC .memM 0b000111#6 dest jump s

/-- `dest=c[1,001000];jump`: out = 0 (R138, R286). -/
def execC1_001000 (dest : Dest) (jump : Jump) (s : State) : Result :=
  computeC .memM 0b001000#6 dest jump s

/-- `dest=c[1,001001];jump`: out = -1 (R139, R286). -/
def execC1_001001 (dest : Dest) (jump : Jump) (s : State) : Result :=
  computeC .memM 0b001001#6 dest jump s

/-- `dest=c[1,001010];jump`: out = D (R140, R286). -/
def execC1_001010 (dest : Dest) (jump : Jump) (s : State) : Result :=
  computeC .memM 0b001010#6 dest jump s

/-- `dest=c[1,001011];jump`: out = ~D (R141, R286). -/
def execC1_001011 (dest : Dest) (jump : Jump) (s : State) : Result :=
  computeC .memM 0b001011#6 dest jump s

/-- `dest=c[1,001100];jump`: out = D (R142, R286). -/
def execC1_001100 (dest : Dest) (jump : Jump) (s : State) : Result :=
  computeC .memM 0b001100#6 dest jump s

/-- `dest=c[1,001101];jump`: out = ~D (R143, R286). -/
def execC1_001101 (dest : Dest) (jump : Jump) (s : State) : Result :=
  computeC .memM 0b001101#6 dest jump s

/-- `dest=c[1,001110];jump`: out = D-1 (R144, R286). -/
def execC1_001110 (dest : Dest) (jump : Jump) (s : State) : Result :=
  computeC .memM 0b001110#6 dest jump s

/-- `dest=c[1,001111];jump`: out = -D (R145, R286). -/
def execC1_001111 (dest : Dest) (jump : Jump) (s : State) : Result :=
  computeC .memM 0b001111#6 dest jump s

/-- `dest=c[1,010000];jump`: out = ~D&M (R146, R286). -/
def execC1_010000 (dest : Dest) (jump : Jump) (s : State) : Result :=
  computeC .memM 0b010000#6 dest jump s

/-- `dest=c[1,010001];jump`: out = D|~M (R147, R286). -/
def execC1_010001 (dest : Dest) (jump : Jump) (s : State) : Result :=
  computeC .memM 0b010001#6 dest jump s

/-- `dest=c[1,010010];jump`: out = M-D-1 (R148, R286). -/
def execC1_010010 (dest : Dest) (jump : Jump) (s : State) : Result :=
  computeC .memM 0b010010#6 dest jump s

/-- `dest=D-M;jump`: out = D-M (R149, R286). -/
def execSubDM (dest : Dest) (jump : Jump) (s : State) : Result :=
  computeC .memM 0b010011#6 dest jump s

/-- `dest=c[1,010100];jump`: out = ~(D|M) (R150, R286). -/
def execC1_010100 (dest : Dest) (jump : Jump) (s : State) : Result :=
  computeC .memM 0b010100#6 dest jump s

/-- `dest=D|M;jump`: out = D|M (R151, R286). -/
def execOrDM (dest : Dest) (jump : Jump) (s : State) : Result :=
  computeC .memM 0b010101#6 dest jump s

/-- `dest=c[1,010110];jump`: out = -D-M-2 (R152, R286). -/
def execC1_010110 (dest : Dest) (jump : Jump) (s : State) : Result :=
  computeC .memM 0b010110#6 dest jump s

/-- `dest=c[1,010111];jump`: out = D+M+1 (R153, R286). -/
def execC1_010111 (dest : Dest) (jump : Jump) (s : State) : Result :=
  computeC .memM 0b010111#6 dest jump s

/-- `dest=c[1,011000];jump`: out = 0 (R154, R286). -/
def execC1_011000 (dest : Dest) (jump : Jump) (s : State) : Result :=
  computeC .memM 0b011000#6 dest jump s

/-- `dest=c[1,011001];jump`: out = -1 (R155, R286). -/
def execC1_011001 (dest : Dest) (jump : Jump) (s : State) : Result :=
  computeC .memM 0b011001#6 dest jump s

/-- `dest=c[1,011010];jump`: out = ~D (R156, R286). -/
def execC1_011010 (dest : Dest) (jump : Jump) (s : State) : Result :=
  computeC .memM 0b011010#6 dest jump s

/-- `dest=c[1,011011];jump`: out = D (R157, R286). -/
def execC1_011011 (dest : Dest) (jump : Jump) (s : State) : Result :=
  computeC .memM 0b011011#6 dest jump s

/-- `dest=c[1,011100];jump`: out = ~D (R158, R286). -/
def execC1_011100 (dest : Dest) (jump : Jump) (s : State) : Result :=
  computeC .memM 0b011100#6 dest jump s

/-- `dest=c[1,011101];jump`: out = D (R159, R286). -/
def execC1_011101 (dest : Dest) (jump : Jump) (s : State) : Result :=
  computeC .memM 0b011101#6 dest jump s

/-- `dest=c[1,011110];jump`: out = -D-2 (R160, R286). -/
def execC1_011110 (dest : Dest) (jump : Jump) (s : State) : Result :=
  computeC .memM 0b011110#6 dest jump s

/-- `dest=c[1,011111];jump`: out = D+1 (R161, R286). -/
def execC1_011111 (dest : Dest) (jump : Jump) (s : State) : Result :=
  computeC .memM 0b011111#6 dest jump s

/-- `dest=c[1,100000];jump`: out = 0 (R162, R286). -/
def execC1_100000 (dest : Dest) (jump : Jump) (s : State) : Result :=
  computeC .memM 0b100000#6 dest jump s

/-- `dest=c[1,100001];jump`: out = -1 (R163, R286). -/
def execC1_100001 (dest : Dest) (jump : Jump) (s : State) : Result :=
  computeC .memM 0b100001#6 dest jump s

/-- `dest=c[1,100010];jump`: out = M (R164, R286). -/
def execC1_100010 (dest : Dest) (jump : Jump) (s : State) : Result :=
  computeC .memM 0b100010#6 dest jump s

/-- `dest=c[1,100011];jump`: out = ~M (R165, R286). -/
def execC1_100011 (dest : Dest) (jump : Jump) (s : State) : Result :=
  computeC .memM 0b100011#6 dest jump s

/-- `dest=c[1,100100];jump`: out = 0 (R166, R286). -/
def execC1_100100 (dest : Dest) (jump : Jump) (s : State) : Result :=
  computeC .memM 0b100100#6 dest jump s

/-- `dest=c[1,100101];jump`: out = -1 (R167, R286). -/
def execC1_100101 (dest : Dest) (jump : Jump) (s : State) : Result :=
  computeC .memM 0b100101#6 dest jump s

/-- `dest=c[1,100110];jump`: out = ~M (R168, R286). -/
def execC1_100110 (dest : Dest) (jump : Jump) (s : State) : Result :=
  computeC .memM 0b100110#6 dest jump s

/-- `dest=c[1,100111];jump`: out = M (R169, R286). -/
def execC1_100111 (dest : Dest) (jump : Jump) (s : State) : Result :=
  computeC .memM 0b100111#6 dest jump s

/-- `dest=c[1,101000];jump`: out = 0 (R170, R286). -/
def execC1_101000 (dest : Dest) (jump : Jump) (s : State) : Result :=
  computeC .memM 0b101000#6 dest jump s

/-- `dest=c[1,101001];jump`: out = -1 (R171, R286). -/
def execC1_101001 (dest : Dest) (jump : Jump) (s : State) : Result :=
  computeC .memM 0b101001#6 dest jump s

/-- `dest=c[1,101010];jump`: out = 0 (R172, R286). -/
def execC1_101010 (dest : Dest) (jump : Jump) (s : State) : Result :=
  computeC .memM 0b101010#6 dest jump s

/-- `dest=c[1,101011];jump`: out = -1 (R173, R286). -/
def execC1_101011 (dest : Dest) (jump : Jump) (s : State) : Result :=
  computeC .memM 0b101011#6 dest jump s

/-- `dest=c[1,101100];jump`: out = 0 (R174, R286). -/
def execC1_101100 (dest : Dest) (jump : Jump) (s : State) : Result :=
  computeC .memM 0b101100#6 dest jump s

/-- `dest=c[1,101101];jump`: out = -1 (R175, R286). -/
def execC1_101101 (dest : Dest) (jump : Jump) (s : State) : Result :=
  computeC .memM 0b101101#6 dest jump s

/-- `dest=c[1,101110];jump`: out = -1 (R176, R286). -/
def execC1_101110 (dest : Dest) (jump : Jump) (s : State) : Result :=
  computeC .memM 0b101110#6 dest jump s

/-- `dest=c[1,101111];jump`: out = 0 (R177, R286). -/
def execC1_101111 (dest : Dest) (jump : Jump) (s : State) : Result :=
  computeC .memM 0b101111#6 dest jump s

/-- `dest=M;jump`: out = M (R178, R286). -/
def execCopyM (dest : Dest) (jump : Jump) (s : State) : Result :=
  computeC .memM 0b110000#6 dest jump s

/-- `dest=!M;jump`: out = ~M (R179, R286). -/
def execNotM (dest : Dest) (jump : Jump) (s : State) : Result :=
  computeC .memM 0b110001#6 dest jump s

/-- `dest=M-1;jump`: out = M-1 (R180, R286). -/
def execDecM (dest : Dest) (jump : Jump) (s : State) : Result :=
  computeC .memM 0b110010#6 dest jump s

/-- `dest=-M;jump`: out = -M (R181, R286). -/
def execNegM (dest : Dest) (jump : Jump) (s : State) : Result :=
  computeC .memM 0b110011#6 dest jump s

/-- `dest=c[1,110100];jump`: out = ~M (R182, R286). -/
def execC1_110100 (dest : Dest) (jump : Jump) (s : State) : Result :=
  computeC .memM 0b110100#6 dest jump s

/-- `dest=c[1,110101];jump`: out = M (R183, R286). -/
def execC1_110101 (dest : Dest) (jump : Jump) (s : State) : Result :=
  computeC .memM 0b110101#6 dest jump s

/-- `dest=c[1,110110];jump`: out = -M-2 (R184, R286). -/
def execC1_110110 (dest : Dest) (jump : Jump) (s : State) : Result :=
  computeC .memM 0b110110#6 dest jump s

/-- `dest=M+1;jump`: out = M+1 (R185, R286). -/
def execIncM (dest : Dest) (jump : Jump) (s : State) : Result :=
  computeC .memM 0b110111#6 dest jump s

/-- `dest=c[1,111000];jump`: out = 0 (R186, R286). -/
def execC1_111000 (dest : Dest) (jump : Jump) (s : State) : Result :=
  computeC .memM 0b111000#6 dest jump s

/-- `dest=c[1,111001];jump`: out = -1 (R187, R286). -/
def execC1_111001 (dest : Dest) (jump : Jump) (s : State) : Result :=
  computeC .memM 0b111001#6 dest jump s

/-- `dest=c[1,111010];jump`: out = -1 (R188, R286). -/
def execC1_111010 (dest : Dest) (jump : Jump) (s : State) : Result :=
  computeC .memM 0b111010#6 dest jump s

/-- `dest=c[1,111011];jump`: out = 0 (R189, R286). -/
def execC1_111011 (dest : Dest) (jump : Jump) (s : State) : Result :=
  computeC .memM 0b111011#6 dest jump s

/-- `dest=c[1,111100];jump`: out = -1 (R190, R286). -/
def execC1_111100 (dest : Dest) (jump : Jump) (s : State) : Result :=
  computeC .memM 0b111100#6 dest jump s

/-- `dest=c[1,111101];jump`: out = 0 (R191, R286). -/
def execC1_111101 (dest : Dest) (jump : Jump) (s : State) : Result :=
  computeC .memM 0b111101#6 dest jump s

/-- `dest=c[1,111110];jump`: out = -2 (R192, R286). -/
def execC1_111110 (dest : Dest) (jump : Jump) (s : State) : Result :=
  computeC .memM 0b111110#6 dest jump s

/-- `dest=c[1,111111];jump`: out = 1 (R193, R286). -/
def execC1_111111 (dest : Dest) (jump : Jump) (s : State) : Result :=
  computeC .memM 0b111111#6 dest jump s

end Sys2Proof.Machine
end

