-- ==== Sys2Proof/Machine/Dispatch.lean ====
section
/-! DEFINITION. One arm per constructor of Instr, each one direct call of its meaning. -/

namespace Sys2Proof.Machine

def exec (i : Instr) (s : State) : Host.Outcome State Fault Refusal :=
  match i with
  | .atValue value => Sys2Proof.Machine.execAtValue value s
  | .andDA dest jump => Sys2Proof.Machine.execAndDA dest jump s
  | .c0_000001 dest jump => Sys2Proof.Machine.execC0_000001 dest jump s
  | .addDA dest jump => Sys2Proof.Machine.execAddDA dest jump s
  | .c0_000011 dest jump => Sys2Proof.Machine.execC0_000011 dest jump s
  | .c0_000100 dest jump => Sys2Proof.Machine.execC0_000100 dest jump s
  | .c0_000101 dest jump => Sys2Proof.Machine.execC0_000101 dest jump s
  | .c0_000110 dest jump => Sys2Proof.Machine.execC0_000110 dest jump s
  | .subAD dest jump => Sys2Proof.Machine.execSubAD dest jump s
  | .c0_001000 dest jump => Sys2Proof.Machine.execC0_001000 dest jump s
  | .c0_001001 dest jump => Sys2Proof.Machine.execC0_001001 dest jump s
  | .c0_001010 dest jump => Sys2Proof.Machine.execC0_001010 dest jump s
  | .c0_001011 dest jump => Sys2Proof.Machine.execC0_001011 dest jump s
  | .copyD dest jump => Sys2Proof.Machine.execCopyD dest jump s
  | .notD dest jump => Sys2Proof.Machine.execNotD dest jump s
  | .decD dest jump => Sys2Proof.Machine.execDecD dest jump s
  | .negD dest jump => Sys2Proof.Machine.execNegD dest jump s
  | .c0_010000 dest jump => Sys2Proof.Machine.execC0_010000 dest jump s
  | .c0_010001 dest jump => Sys2Proof.Machine.execC0_010001 dest jump s
  | .c0_010010 dest jump => Sys2Proof.Machine.execC0_010010 dest jump s
  | .subDA dest jump => Sys2Proof.Machine.execSubDA dest jump s
  | .c0_010100 dest jump => Sys2Proof.Machine.execC0_010100 dest jump s
  | .orDA dest jump => Sys2Proof.Machine.execOrDA dest jump s
  | .c0_010110 dest jump => Sys2Proof.Machine.execC0_010110 dest jump s
  | .c0_010111 dest jump => Sys2Proof.Machine.execC0_010111 dest jump s
  | .c0_011000 dest jump => Sys2Proof.Machine.execC0_011000 dest jump s
  | .c0_011001 dest jump => Sys2Proof.Machine.execC0_011001 dest jump s
  | .c0_011010 dest jump => Sys2Proof.Machine.execC0_011010 dest jump s
  | .c0_011011 dest jump => Sys2Proof.Machine.execC0_011011 dest jump s
  | .c0_011100 dest jump => Sys2Proof.Machine.execC0_011100 dest jump s
  | .c0_011101 dest jump => Sys2Proof.Machine.execC0_011101 dest jump s
  | .c0_011110 dest jump => Sys2Proof.Machine.execC0_011110 dest jump s
  | .incD dest jump => Sys2Proof.Machine.execIncD dest jump s
  | .c0_100000 dest jump => Sys2Proof.Machine.execC0_100000 dest jump s
  | .c0_100001 dest jump => Sys2Proof.Machine.execC0_100001 dest jump s
  | .c0_100010 dest jump => Sys2Proof.Machine.execC0_100010 dest jump s
  | .c0_100011 dest jump => Sys2Proof.Machine.execC0_100011 dest jump s
  | .c0_100100 dest jump => Sys2Proof.Machine.execC0_100100 dest jump s
  | .c0_100101 dest jump => Sys2Proof.Machine.execC0_100101 dest jump s
  | .c0_100110 dest jump => Sys2Proof.Machine.execC0_100110 dest jump s
  | .c0_100111 dest jump => Sys2Proof.Machine.execC0_100111 dest jump s
  | .c0_101000 dest jump => Sys2Proof.Machine.execC0_101000 dest jump s
  | .c0_101001 dest jump => Sys2Proof.Machine.execC0_101001 dest jump s
  | .const0 dest jump => Sys2Proof.Machine.execConst0 dest jump s
  | .c0_101011 dest jump => Sys2Proof.Machine.execC0_101011 dest jump s
  | .c0_101100 dest jump => Sys2Proof.Machine.execC0_101100 dest jump s
  | .c0_101101 dest jump => Sys2Proof.Machine.execC0_101101 dest jump s
  | .c0_101110 dest jump => Sys2Proof.Machine.execC0_101110 dest jump s
  | .c0_101111 dest jump => Sys2Proof.Machine.execC0_101111 dest jump s
  | .copyA dest jump => Sys2Proof.Machine.execCopyA dest jump s
  | .notA dest jump => Sys2Proof.Machine.execNotA dest jump s
  | .decA dest jump => Sys2Proof.Machine.execDecA dest jump s
  | .negA dest jump => Sys2Proof.Machine.execNegA dest jump s
  | .c0_110100 dest jump => Sys2Proof.Machine.execC0_110100 dest jump s
  | .c0_110101 dest jump => Sys2Proof.Machine.execC0_110101 dest jump s
  | .c0_110110 dest jump => Sys2Proof.Machine.execC0_110110 dest jump s
  | .incA dest jump => Sys2Proof.Machine.execIncA dest jump s
  | .c0_111000 dest jump => Sys2Proof.Machine.execC0_111000 dest jump s
  | .c0_111001 dest jump => Sys2Proof.Machine.execC0_111001 dest jump s
  | .constMinus1 dest jump => Sys2Proof.Machine.execConstMinus1 dest jump s
  | .c0_111011 dest jump => Sys2Proof.Machine.execC0_111011 dest jump s
  | .c0_111100 dest jump => Sys2Proof.Machine.execC0_111100 dest jump s
  | .c0_111101 dest jump => Sys2Proof.Machine.execC0_111101 dest jump s
  | .c0_111110 dest jump => Sys2Proof.Machine.execC0_111110 dest jump s
  | .const1 dest jump => Sys2Proof.Machine.execConst1 dest jump s
  | .andDM dest jump => Sys2Proof.Machine.execAndDM dest jump s
  | .c1_000001 dest jump => Sys2Proof.Machine.execC1_000001 dest jump s
  | .addDM dest jump => Sys2Proof.Machine.execAddDM dest jump s
  | .c1_000011 dest jump => Sys2Proof.Machine.execC1_000011 dest jump s
  | .c1_000100 dest jump => Sys2Proof.Machine.execC1_000100 dest jump s
  | .c1_000101 dest jump => Sys2Proof.Machine.execC1_000101 dest jump s
  | .c1_000110 dest jump => Sys2Proof.Machine.execC1_000110 dest jump s
  | .subMD dest jump => Sys2Proof.Machine.execSubMD dest jump s
  | .c1_001000 dest jump => Sys2Proof.Machine.execC1_001000 dest jump s
  | .c1_001001 dest jump => Sys2Proof.Machine.execC1_001001 dest jump s
  | .c1_001010 dest jump => Sys2Proof.Machine.execC1_001010 dest jump s
  | .c1_001011 dest jump => Sys2Proof.Machine.execC1_001011 dest jump s
  | .c1_001100 dest jump => Sys2Proof.Machine.execC1_001100 dest jump s
  | .c1_001101 dest jump => Sys2Proof.Machine.execC1_001101 dest jump s
  | .c1_001110 dest jump => Sys2Proof.Machine.execC1_001110 dest jump s
  | .c1_001111 dest jump => Sys2Proof.Machine.execC1_001111 dest jump s
  | .c1_010000 dest jump => Sys2Proof.Machine.execC1_010000 dest jump s
  | .c1_010001 dest jump => Sys2Proof.Machine.execC1_010001 dest jump s
  | .c1_010010 dest jump => Sys2Proof.Machine.execC1_010010 dest jump s
  | .subDM dest jump => Sys2Proof.Machine.execSubDM dest jump s
  | .c1_010100 dest jump => Sys2Proof.Machine.execC1_010100 dest jump s
  | .orDM dest jump => Sys2Proof.Machine.execOrDM dest jump s
  | .c1_010110 dest jump => Sys2Proof.Machine.execC1_010110 dest jump s
  | .c1_010111 dest jump => Sys2Proof.Machine.execC1_010111 dest jump s
  | .c1_011000 dest jump => Sys2Proof.Machine.execC1_011000 dest jump s
  | .c1_011001 dest jump => Sys2Proof.Machine.execC1_011001 dest jump s
  | .c1_011010 dest jump => Sys2Proof.Machine.execC1_011010 dest jump s
  | .c1_011011 dest jump => Sys2Proof.Machine.execC1_011011 dest jump s
  | .c1_011100 dest jump => Sys2Proof.Machine.execC1_011100 dest jump s
  | .c1_011101 dest jump => Sys2Proof.Machine.execC1_011101 dest jump s
  | .c1_011110 dest jump => Sys2Proof.Machine.execC1_011110 dest jump s
  | .c1_011111 dest jump => Sys2Proof.Machine.execC1_011111 dest jump s
  | .c1_100000 dest jump => Sys2Proof.Machine.execC1_100000 dest jump s
  | .c1_100001 dest jump => Sys2Proof.Machine.execC1_100001 dest jump s
  | .c1_100010 dest jump => Sys2Proof.Machine.execC1_100010 dest jump s
  | .c1_100011 dest jump => Sys2Proof.Machine.execC1_100011 dest jump s
  | .c1_100100 dest jump => Sys2Proof.Machine.execC1_100100 dest jump s
  | .c1_100101 dest jump => Sys2Proof.Machine.execC1_100101 dest jump s
  | .c1_100110 dest jump => Sys2Proof.Machine.execC1_100110 dest jump s
  | .c1_100111 dest jump => Sys2Proof.Machine.execC1_100111 dest jump s
  | .c1_101000 dest jump => Sys2Proof.Machine.execC1_101000 dest jump s
  | .c1_101001 dest jump => Sys2Proof.Machine.execC1_101001 dest jump s
  | .c1_101010 dest jump => Sys2Proof.Machine.execC1_101010 dest jump s
  | .c1_101011 dest jump => Sys2Proof.Machine.execC1_101011 dest jump s
  | .c1_101100 dest jump => Sys2Proof.Machine.execC1_101100 dest jump s
  | .c1_101101 dest jump => Sys2Proof.Machine.execC1_101101 dest jump s
  | .c1_101110 dest jump => Sys2Proof.Machine.execC1_101110 dest jump s
  | .c1_101111 dest jump => Sys2Proof.Machine.execC1_101111 dest jump s
  | .copyM dest jump => Sys2Proof.Machine.execCopyM dest jump s
  | .notM dest jump => Sys2Proof.Machine.execNotM dest jump s
  | .decM dest jump => Sys2Proof.Machine.execDecM dest jump s
  | .negM dest jump => Sys2Proof.Machine.execNegM dest jump s
  | .c1_110100 dest jump => Sys2Proof.Machine.execC1_110100 dest jump s
  | .c1_110101 dest jump => Sys2Proof.Machine.execC1_110101 dest jump s
  | .c1_110110 dest jump => Sys2Proof.Machine.execC1_110110 dest jump s
  | .incM dest jump => Sys2Proof.Machine.execIncM dest jump s
  | .c1_111000 dest jump => Sys2Proof.Machine.execC1_111000 dest jump s
  | .c1_111001 dest jump => Sys2Proof.Machine.execC1_111001 dest jump s
  | .c1_111010 dest jump => Sys2Proof.Machine.execC1_111010 dest jump s
  | .c1_111011 dest jump => Sys2Proof.Machine.execC1_111011 dest jump s
  | .c1_111100 dest jump => Sys2Proof.Machine.execC1_111100 dest jump s
  | .c1_111101 dest jump => Sys2Proof.Machine.execC1_111101 dest jump s
  | .c1_111110 dest jump => Sys2Proof.Machine.execC1_111110 dest jump s
  | .c1_111111 dest jump => Sys2Proof.Machine.execC1_111111 dest jump s

end Sys2Proof.Machine
end

