-- ==== Sys2Proof/Machine/Step.lean ====
section
/-! DEFINITION. One step: one clock cycle, one instruction (spec/47_system.md R305). -/

namespace Sys2Proof.Machine

/-- One clock cycle: the word at `pc` is fetched and decoded, its meaning runs, the cycle's `reset` is used up. -/
def step (s : State) : Host.Outcome State Fault Refusal := endCycleOf (exec (decode (fetchWord s)) s)

/-- The state with an instruction word stored where the next step fetches (log entries 5 and 17). -/
def State.withFetchWord (s : State) (nbits w : Nat) : State :=
  loadWord s s.pc (BitVec.ofNat 16 (w % 2 ^ nbits))

end Sys2Proof.Machine
end

