-- ==== Sys2Proof/Machine/Control.lean ====
section
/-! DEFINITION. The control/decode unit (spec/45_control_decode.md): combinational, no state. It reads
instruction bits 15, 12, 11 to 0 and no others (R240, R274). -/

namespace Sys2Proof.Machine

/-- `isC = instruction[15]` (R241). -/
def ctlIsC (instruction : Word) : Bool := instruction.getLsbD 15

/-- `writeA = (NOT isC) OR instruction[5]` (R242). -/
def ctlWriteA (instruction : Word) : Bool := gateOr (gateNot (ctlIsC instruction)) (instruction.getLsbD 5)

/-- `writeD = isC AND instruction[4]` (R247). -/
def ctlWriteD (instruction : Word) : Bool := gateAnd (ctlIsC instruction) (instruction.getLsbD 4)

/-- `writeM = isC AND instruction[3]` (R243). -/
def ctlWriteM (instruction : Word) : Bool := gateAnd (ctlIsC instruction) (instruction.getLsbD 3)

/-- The second operand's selector, instruction bit 12 alone (R245). -/
def ctlSelectM (instruction : Word) : Bool := instruction.getLsbD 12

/-- The six ALU control bits, instruction bits 11 to 6 unchanged (R246). -/
def ctlAluCode (instruction : Word) : AluCode := instruction.extractLsb' 6 6

/-- The jump bits, instruction bits 2, 1, 0 (R258). -/
def ctlJump (instruction : Word) : Jump := jumpOfBits (instruction.extractLsb' 0 3)

/-- The A register's input: the instruction word for an A-instruction, the ALU result for a C-instruction
(R248). -/
def ctlAInput (instruction out : Word) : Word := mux instruction out (ctlIsC instruction)

/-- `loadPC = jumpDecision AND isC` (R260, R271). -/
def ctlLoadPC (instruction : Word) (zero negative : Bool) : Bool :=
  gateAnd (jumpDecision (ctlJump instruction) zero negative) (ctlIsC instruction)

/-- What the unit produces (R240). -/
structure ControlOut where
  isC : Bool
  writeA : Bool
  writeD : Bool
  writeM : Bool
  selectM : Bool
  aluCode : AluCode
  loadPC : Bool
  deriving DecidableEq, Repr

/-- The unit: its outputs from the instruction word and the two flags of the same cycle (R240). -/
def controlUnit (instruction : Word) (zero negative : Bool) : ControlOut where
  isC := ctlIsC instruction
  writeA := ctlWriteA instruction
  writeD := ctlWriteD instruction
  writeM := ctlWriteM instruction
  selectM := ctlSelectM instruction
  aluCode := ctlAluCode instruction
  loadPC := ctlLoadPC instruction zero negative

end Sys2Proof.Machine
end

