-- ==== Sys2Proof/Machine/Cpu.lean ====
section
/-! DEFINITION. The CPU alone, at its boundary (spec/46_cpu.md R280): it wires the control unit, A, D, the ALU
and the program counter (R282). One evaluation is one clock cycle. -/

namespace Sys2Proof.Machine

/-- The CPU's state (R288). -/
structure CpuState where
  a : Word
  d : Word
  pc : Addr15
  deriving DecidableEq, Repr

/-- The CPU's inputs in a cycle (R280). -/
structure CpuIn where
  instruction : Word
  inM : Word
  reset : Bool
  deriving DecidableEq, Repr

/-- The CPU's outputs in a cycle (R280, R283). `outM` is present only when `writeM = 1`: it is "valid only when
writeM asserted" (R289; log entry 10). -/
structure CpuOut where
  outM : Option Word
  writeM : Bool
  addressM : Addr15
  pc : Addr15
  deriving DecidableEq, Repr

/-- The ALU result of the cycle: `x = D`, `y = Mux16(A, inM, instruction[12])`, control `instruction[11:6]`, in
every cycle, an A-instruction's too (R244, R245, R246, R282, R285). -/
def cpuAluOut (s : CpuState) (i : CpuIn) : Word :=
  alu s.d (mux s.a i.inM (ctlSelectM i.instruction)) (ctlAluCode i.instruction)

/-- The outputs of the cycle (R283). -/
def cpuOut (s : CpuState) (i : CpuIn) : CpuOut where
  outM := if ctlWriteM i.instruction then some (cpuAluOut s i) else none
  writeM := ctlWriteM i.instruction
  addressM := low15 s.a
  pc := s.pc

/-- The state after the clock edge (R282, R288): everything is read before the edge. -/
def cpuNext (s : CpuState) (i : CpuIn) : CpuState :=
  let out := cpuAluOut s i
  { a := registerNext (ctlWriteA i.instruction) (ctlAInput i.instruction out) s.a
    d := registerNext (ctlWriteD i.instruction) out s.d
    pc := pcNext i.reset (ctlLoadPC i.instruction (zr out) (ng out)) s.a s.pc }

end Sys2Proof.Machine
end

