-- ==== Sys2Proof/Machine/MemBlock.lean ====
section
/-! DEFINITION. The address-decoded memory block (spec/43_memory_block.md) as a tree: write enables
demultiplexed, read values multiplexed, down to registers. `ks` lists the fan-out widths from the top (R8). -/

namespace Sys2Proof.Machine

/-- A block with fan-out widths `ks`: with none left a 16-bit register (R215), else `2 ^ k` child blocks
(R214). Child number `i` is the one selector value `i` picks (R217; log entry 16). -/
def Block : List Nat → Type
  | [] => Word
  | k :: ks => BitVec k → Block ks

/-- The top `k` bits of an address: the selector of a level (R214). -/
def selectBits (k rest : Nat) (address : BitVec (k + rest)) : BitVec k := address.extractLsb' rest k

/-- The bits of an address below the selector: passed to every child (R214). -/
def restBits (k rest : Nat) (address : BitVec (k + rest)) : BitVec rest := address.extractLsb' 0 rest

/-- The block's output, combinational in the address and the state (R212): at each level a multiplexer on the
children's outputs (R214). -/
def blockOut : (ks : List Nat) → Block ks → BitVec ks.sum → Word
  | [], s, _ => s
  | k :: ks, b, address =>
    muxN (fun i => blockOut ks (b i) (restBits k ks.sum address)) (selectBits k ks.sum address)

/-- The block's next state: `inp` is broadcast to every child, `load` demultiplexed to one (R213, R214, R222). -/
def blockNext : (ks : List Nat) → (inp : Word) → (load : Bool) → BitVec ks.sum → Block ks → Block ks
  | [], inp, load, _, s => registerNext (n := 16) load inp s
  | k :: ks, inp, load, address, b => fun i =>
    blockNext ks inp (dmuxN load (selectBits k ks.sum address) i) (restBits k ks.sum address) (b i)

/-- The `load` input that the leaf register with number `leaf` receives in a cycle (R214, R219). -/
def leafLoad : (ks : List Nat) → (load : Bool) → (address leaf : BitVec ks.sum) → Bool
  | [], load, _, _ => load
  | k :: ks, load, address, leaf =>
    leafLoad ks (dmuxN load (selectBits k ks.sum address) (selectBits k ks.sum leaf))
      (restBits k ks.sum address) (restBits k ks.sum leaf)

/-- The block whose word at each address is `word address`: how a test or a launch fills a block (R225). -/
def blockOfWords : (ks : List Nat) → (word : BitVec ks.sum → Word) → Block ks
  | [], word => word 0
  | _ :: ks, word => fun i => blockOfWords ks fun rest => word (i ++ rest)

end Sys2Proof.Machine
end

