-- ==== Sys2Proof/Machine/System.lean ====
section
/-! DEFINITION. The reference composition as wired parts (spec/47_system.md R300, R303, R305): the CPU, a data
memory that is a tree of registers, an instruction store. The machine of Step.lean is the same machine said
instruction by instruction. -/

namespace Sys2Proof.Machine

/-- The state of the wired machine: the CPU's and the data memory block's, of fan-out widths `ks` and so of
address width `ks.sum` (R300, R304). -/
structure Wired (ks : List Nat) where
  cpu : CpuState
  dmem : Block ks

/-- What a cycle of the wired machine answers. -/
abbrev WiredResult (ks : List Nat) := Host.Outcome (Wired ks) Fault Refusal

/-- `usesM = isC AND (a OR d3)` (R305), on the instruction word. -/
def wiredUsesM (instruction : Word) : Bool :=
  gateAnd (ctlIsC instruction) (gateOr (ctlSelectM instruction) (instruction.getLsbD 3))

/-- `inM`: the data memory's output where its address reaches, any value elsewhere (R303, R305; log entry 11). -/
def wiredInM (ks : List Nat) (m : Wired ks) : Word :=
  if (low15 m.cpu.a).toNat < 2 ^ ks.sum then blockOut ks m.dmem ((low15 m.cpu.a).setWidth ks.sum)
  else Config.unbackedInM (low15 m.cpu.a)

/-- One cycle of the wired machine (R305): the range check first, then the CPU's step and the memory block's
step on the same `addressM`, `outM`, `writeM`. -/
def wiredStep (imem : Addr15 → Word) (ks : List Nat) (reset : Bool) (m : Wired ks) : WiredResult ks :=
  let instruction := imem m.cpu.pc
  let addr := low15 m.cpu.a
  if wiredUsesM instruction && !decide (addr.toNat < 2 ^ ks.sum) then .fault (.outOfRange addr)
  else
    let i : CpuIn := { instruction := instruction, inM := wiredInM ks m, reset := reset }
    .next { cpu := cpuNext m.cpu i
            dmem := blockNext ks (cpuAluOut m.cpu i) (ctlWriteM instruction) (addr.setWidth ks.sum) m.dmem }

end Sys2Proof.Machine
end

