-- ==== Sys2Proof/WellFormed.lean ====
section
/-! DEFINITION. The checks on what is written down: instructions, literals, fan-out lists. -/

namespace Sys2Proof

/-- An instruction is well formed. Every term is: a literal has 15 bits, the fields have three bits, and no
encoding is illegal (R80, R91), so the types leave nothing to check (log entry 18). -/
def Instr.wellFormed (_ : Instr) : Bool := true

/-- The literals an A-instruction `@n` can carry, `n` a decimal number 0 to 32767 (R84, R95). -/
def literalInRange (n : Nat) : Bool := n ≤ 32767

/-- `@n` for a decimal number in range, nothing for another (R95). -/
def atLiteral (n : Nat) : Option Instr :=
  if literalInRange n then some (.atValue (BitVec.ofNat 15 n)) else none

/-- The fan-out widths of a block of address width `w`: each at least 1, their sum `w` (R8). -/
def fanOutsFor (w : Nat) (ks : List Nat) : Bool := ks.all (fun k => 1 ≤ k) && ks.sum == w

end Sys2Proof
end

