-- ==== Sys2Proof/Safety.lean ====
section
/-! DEFINITION. The terms the statements use: a well-formed state, a launch, a safe cycle, the effect of a
C-instruction, a parked machine, and when the wired machine and the machine agree. -/

namespace Sys2Proof.Machine

/-- The form every state of a run keeps: both stores canonical, no data cell outside the `2 ^ MEM_W` words
(R302, R304), no instruction cell outside the `2 ^ 15` words (R301). -/
def State.wf (s : State) : Bool :=
  s.mem.wf && s.imem.wf && s.mem.within s.memW.val && s.imem.within 15

/-- A launch state: `PC = 0` and `reset` released; A, D, memory, MEM_W and IMEM arbitrary (R308). -/
def Launch (s : State) : Prop := s.wf = true ∧ s.pc = 0#15 ∧ resetNow s = false

/-- The cycle of a state is safe: it answers a next state. The only other answer is `OutOfRange` (R306). -/
def SafeCycle (s : State) : Prop := ∃ t, step s = .next t

/-- Bit `n` of the instruction word of this cycle. -/
def fetchedBit (s : State) (n : Nat) : Bool := (fetchWord s).getLsbD n

/-- The instruction of this cycle is a C-instruction that reads or writes M:
`usesM = isC AND (a OR d3)` (R305). -/
def fetchedUsesM (s : State) : Bool := fetchedBit s 15 && (fetchedBit s 12 || fetchedBit s 3)

/-- The condition of a jump code on the signed result, one case for each code (R263 to R270). -/
def jumpCondition (j : Jump) (out : Word) : Bool :=
  match j.j1, j.j2, j.j3 with
  | false, false, false => false
  | false, false, true => decide (0 < sint out)
  | false, true, false => decide (out = 0x0000#16)
  | false, true, true => decide (0 ≤ sint out)
  | true, false, false => decide (sint out < 0)
  | true, false, true => decide (out ≠ 0x0000#16)
  | true, true, false => decide (sint out ≤ 0)
  | true, true, true => true

/-- The whole effect of a C-instruction whose computation gives `out`, from the state `s` to the state `t`
(R249, R286): what each destination, the program counter and every byte of memory holds after it, and that
nothing else changes. -/
structure CEffect (dest : Dest) (jump : Jump) (out : Word) (s t : State) : Prop where
  /-- A takes the result if bit 5 is set, or else is unchanged -/
  a : t.a = if dest.d1 then out else s.a
  /-- D takes the result if bit 4 is set, or else is unchanged -/
  d : t.d = if dest.d2 then out else s.d
  /-- 0 on `reset`, or else the low 15 bits of the OLD A if the condition holds, or else the next address
  modulo 2^15 -/
  pc : t.pc = if resetNow s then 0#15 else if jumpCondition jump out then low15 s.a else s.pc + 1#15
  /-- if bit 3 is set, the word at the OLD `low15(A)` is the result ... -/
  stored : dest.d3 = true → t.mem.readWord (addressM s) = out
  /-- ... and every byte outside that word reads as before -/
  others : dest.d3 = true → ∀ k, k ≠ 2 * (addressM s).toNat → k ≠ 2 * (addressM s).toNat + 1 →
    t.mem.readByte k = s.mem.readByte k
  /-- if bit 3 is clear, the memory is unchanged -/
  kept : dest.d3 = false → t.mem = s.mem
  /-- the instruction store is unchanged -/
  imem : t.imem = s.imem
  /-- the data memory's width is unchanged -/
  memW : t.memW = s.memW
  /-- the input `reset` is not the instruction's to change -/
  resets : t.resets = s.resets

/-- A constructor computes `f` of D and its second operand (R244, R245, R286): from every state, with every
destination and jump field, if the memory it uses (a = 1 or d3 = 1) has a word at `low15(A)`, it answers a next
state and has the whole effect of a C-instruction whose result is `f D A`, or `f D M` with `M` the old word. -/
def Computes (y : YSource) (instr : Dest → Jump → Instr) (f : Word → Word → Word) : Prop :=
  ∀ (dest : Dest) (jump : Jump) (s : State),
    (y = .memM ∨ dest.d3 = true → (addressM s).toNat < 2 ^ s.memW.val) →
    ∃ t, exec (instr dest jump) s = .next t ∧
      CEffect dest jump (f s.d (match y with | .regA => s.a | .memM => s.mem.readWord (addressM s))) s t

/-- The machine is parked at `p` (R310): `IMEM[p]` is the A-instruction with value `p`, `IMEM[p + 1]` is a
C-instruction with `jump = 111`, `dest = 000`, `a = 0`, and `pc = p`; and `reset` stays 0. -/
def Parked (p : Addr15) (s : State) : Prop :=
  s.imem.readWord p = encodeA p ∧
  (s.imem.readWord (p + 1#15)).getLsbD 15 = true ∧
  (s.imem.readWord (p + 1#15)).getLsbD 12 = false ∧
  (s.imem.readWord (p + 1#15)).extractLsb' 0 6 = 0b000111#6 ∧
  s.pc = p ∧ ∀ r ∈ s.resets, r = false

/-- The wired machine and the machine are in the same state: equal A, D and PC, and every word of the memory
tree is the word of the data memory at that address. -/
def Agrees (ks : List Nat) (m : Wired ks) (s : State) : Prop :=
  m.cpu.a = s.a ∧ m.cpu.d = s.d ∧ m.cpu.pc = s.pc ∧ ks.sum = s.memW.val ∧
  ∀ address : BitVec ks.sum, blockOut ks m.dmem address = s.mem.readWord (address.setWidth 15)

end Sys2Proof.Machine
end

