-- ==== Sys2Proof/Certificates/Slice0/Obligations.lean ====
section
/-! DEFINITION. The statements for the provers: the rules of spec/ about the machine and its parts. -/

open Sys2Proof Sys2Proof.Machine

/-- Decoding the word of any well-formed instruction gives that instruction back (R81, R82, R83, R87, 30_encoding.md). -/
def Obligations.DecodeOfEncodeIsTheInstruction : Prop :=
  ∀ i : Instr, i.wellFormed = true → decode (encode i) = i

/-- Encoding what a word decodes to gives the word back, but for the ignored bits, which read 1 by the model's choice (log entry 9) (R80, R81, R82, R86, R87, 30_encoding.md). -/
def Obligations.DecodeKeepsEveryBitThatIsRead : Prop :=
  ∀ w : Word, encode (decode w) = if w.getLsbD 15 then w ||| 0x6000#16 else w

/-- C-instruction words that differ only in bits 14 and 13 are the same instruction (R86, R296). -/
def Obligations.IgnoredBitsDoNotChangeTheInstruction : Prop :=
  ∀ v w : Word, v.getLsbD 15 = true → w.getLsbD 15 = true → v ||| 0x6000#16 = w ||| 0x6000#16 → decode v = decode w

/-- Every word matches the opcode-table row it decodes to, and no other row (R87, 30_encoding.md section 3). -/
def Obligations.OpcodeRowsAreDisjointAndCoverEveryWord : Prop :=
  ∀ w : Word, w &&& rowMask (decode w) = rowMatch (decode w) ∧
    ∀ i : Instr, w &&& rowMask i = rowMatch i → rowMask i = rowMask (decode w) ∧ rowMatch i = rowMatch (decode w)

/-- Words the spec lists decode to the instructions it names them (R95, R97, 30_encoding.md, 95_test_vectors.md section 8). -/
def Obligations.ListedWordsDecodeAsTheSpecNamesThem : Prop :=
  decode 0x0005#16 = .atValue 5#15 ∧
  decode 0x7FFF#16 = .atValue 32767#15 ∧
  decode 0xE391#16 = .decD ⟨false, true, false⟩ ⟨false, false, true⟩ ∧
  decode 0x8391#16 = .decD ⟨false, true, false⟩ ⟨false, false, true⟩ ∧
  decode 0xE7D1#16 = .incD ⟨false, true, false⟩ ⟨false, false, true⟩ ∧
  decode 0xFC10#16 = .copyM ⟨false, true, false⟩ ⟨false, false, false⟩ ∧
  decode 0xF088#16 = .addDM ⟨false, false, true⟩ ⟨false, false, false⟩ ∧
  decode 0xFCA8#16 = .decM ⟨true, false, true⟩ ⟨false, false, false⟩ ∧
  decode 0xEA87#16 = .const0 ⟨false, false, false⟩ ⟨true, true, true⟩ ∧
  decode 0xE5F0#16 = .c0_010111 ⟨true, true, false⟩ ⟨false, false, false⟩ ∧
  decode 0xFA90#16 = .c1_101010 ⟨false, true, false⟩ ⟨false, false, false⟩

/-- When the word at pc decodes to i, a step is exec of i, and then the cycle's reset input is used up (R301, R305, R309). -/
def Obligations.StepRunsTheDecodedInstruction : Prop :=
  ∀ (s : State) (i : Instr), decode (s.imem.readWord s.pc) = i → i.wellFormed = true →
    (∀ t, exec i s = .next t → step s = .next { t with resets := t.resets.tail }) ∧
    (∀ f, exec i s = .fault f → step s = .fault f) ∧
    (∀ r, exec i s ≠ .refused r)

/-- A step is never refused; it faults exactly when the instruction uses M at an address with no word, and else completes (R91, R306, R307, R323). -/
def Obligations.StepFaultsExactlyOnUnbackedMemoryUse : Prop :=
  ∀ s : State,
    if fetchedUsesM s = true ∧ 2 ^ s.memW.val ≤ (low15 s.a).toNat then step s = .fault (.outOfRange (low15 s.a))
    else ∃ t, step s = .next t

/-- With MEM_W = 15 every cycle is safe (R302, R306). -/
def Obligations.FullDataMemoryNeverFaults : Prop :=
  ∀ s : State, s.memW = 15 → SafeCycle s

/-- Every C-instruction word: result, destinations, jump, memory, and the one fault, before reset by the spec's own decision D11 (log entry 15) (R249, R286, R306, R323). -/
def Obligations.EveryCInstructionWordHasItsEffect : Prop :=
  ∀ (w : Word) (s : State), w.getLsbD 15 = true →
    let usesMem := w.getLsbD 12 = true ∨ w.getLsbD 3 = true
    let y := if w.getLsbD 12 then s.mem.readWord (addressM s) else s.a
    let out := alu s.d y (w.extractLsb' 6 6)
    ((usesMem → (addressM s).toNat < 2 ^ s.memW.val) →
      ∃ t, exec (decode w) s = .next t ∧
        CEffect ⟨w.getLsbD 5, w.getLsbD 4, w.getLsbD 3⟩ ⟨w.getLsbD 2, w.getLsbD 1, w.getLsbD 0⟩ out s t) ∧
    (usesMem → 2 ^ s.memW.val ≤ (addressM s).toNat →
      exec (decode w) s = .fault (.outOfRange (low15 s.a)))

/-- The A-instruction loads its literal into A, advances pc, and changes nothing else (R284). -/
def Obligations.AInstructionLoadsItsLiteral : Prop :=
  (∀ (value : Addr15) (s : State), exec (.atValue value) s =
      .next { s with a := 0#1 ++ value, pc := if resetNow s then 0#15 else s.pc + 1#15 }) ∧
  (∀ (w : Word) (s : State), w.getLsbD 15 = false → exec (decode w) s =
      .next { s with a := w, pc := if resetNow s then 0#15 else s.pc + 1#15 })

/-- The four AND forms compute D&y, D&~y, ~D&y and ~(D|y) (R130, R134, R146, R150). -/
def Obligations.BitwiseAndForms : Prop :=
  Computes .regA .andDA (fun x y => x &&& y) ∧
  Computes .memM .andDM (fun x y => x &&& y) ∧
  Computes .regA .c0_000100 (fun x y => x &&& ~~~y) ∧
  Computes .memM .c1_000100 (fun x y => x &&& ~~~y) ∧
  Computes .regA .c0_010000 (fun x y => ~~~x &&& y) ∧
  Computes .memM .c1_010000 (fun x y => ~~~x &&& y) ∧
  Computes .regA .c0_010100 (fun x y => ~~~(x ||| y)) ∧
  Computes .memM .c1_010100 (fun x y => ~~~(x ||| y))

/-- The four OR forms compute D|y, D|~y, ~D|y and ~(D&y) (R151, R147, R135, R131). -/
def Obligations.BitwiseOrForms : Prop :=
  Computes .regA .orDA (fun x y => x ||| y) ∧
  Computes .memM .orDM (fun x y => x ||| y) ∧
  Computes .regA .c0_010001 (fun x y => x ||| ~~~y) ∧
  Computes .memM .c1_010001 (fun x y => x ||| ~~~y) ∧
  Computes .regA .c0_000101 (fun x y => ~~~x ||| y) ∧
  Computes .memM .c1_000101 (fun x y => ~~~x ||| y) ∧
  Computes .regA .c0_000001 (fun x y => ~~~(x &&& y)) ∧
  Computes .memM .c1_000001 (fun x y => ~~~(x &&& y))

/-- The four sum forms compute D+y, D+y+1, -D-y-1 and -D-y-2 modulo 2^16 (R132, R153, R133, R152). -/
def Obligations.SumForms : Prop :=
  Computes .regA .addDA (fun x y => x + y) ∧
  Computes .memM .addDM (fun x y => x + y) ∧
  Computes .regA .c0_010111 (fun x y => x + y + 1#16) ∧
  Computes .memM .c1_010111 (fun x y => x + y + 1#16) ∧
  Computes .regA .c0_000011 (fun x y => -x - y - 1#16) ∧
  Computes .memM .c1_000011 (fun x y => -x - y - 1#16) ∧
  Computes .regA .c0_010110 (fun x y => -x - y - 2#16) ∧
  Computes .memM .c1_010110 (fun x y => -x - y - 2#16)

/-- The four difference forms compute D-y, y-D, D-y-1 and y-D-1 modulo 2^16 (R149, R137, R136, R148). -/
def Obligations.DifferenceForms : Prop :=
  Computes .regA .subDA (fun x y => x - y) ∧
  Computes .memM .subDM (fun x y => x - y) ∧
  Computes .regA .subAD (fun x y => y - x) ∧
  Computes .memM .subMD (fun x y => y - x) ∧
  Computes .regA .c0_000110 (fun x y => x - y - 1#16) ∧
  Computes .memM .c1_000110 (fun x y => x - y - 1#16) ∧
  Computes .regA .c0_010010 (fun x y => y - x - 1#16) ∧
  Computes .memM .c1_010010 (fun x y => y - x - 1#16)

/-- The eight codes that copy or complement D (R140, R142, R157, R159, R141, R143, R156, R158). -/
def Obligations.CopyAndComplementOfD : Prop :=
  Computes .regA .c0_001010 (fun x _ => x) ∧
  Computes .regA .copyD (fun x _ => x) ∧
  Computes .regA .c0_011011 (fun x _ => x) ∧
  Computes .regA .c0_011101 (fun x _ => x) ∧
  Computes .memM .c1_001010 (fun x _ => x) ∧
  Computes .memM .c1_001100 (fun x _ => x) ∧
  Computes .memM .c1_011011 (fun x _ => x) ∧
  Computes .memM .c1_011101 (fun x _ => x) ∧
  Computes .regA .c0_001011 (fun x _ => ~~~x) ∧
  Computes .regA .notD (fun x _ => ~~~x) ∧
  Computes .regA .c0_011010 (fun x _ => ~~~x) ∧
  Computes .regA .c0_011100 (fun x _ => ~~~x) ∧
  Computes .memM .c1_001011 (fun x _ => ~~~x) ∧
  Computes .memM .c1_001101 (fun x _ => ~~~x) ∧
  Computes .memM .c1_011010 (fun x _ => ~~~x) ∧
  Computes .memM .c1_011100 (fun x _ => ~~~x)

/-- The codes that compute D-1, -D, -D-2 and D+1 modulo 2^16 (R144, R145, R160, R161). -/
def Obligations.ArithmeticOnD : Prop :=
  Computes .regA .decD (fun x _ => x - 1#16) ∧
  Computes .memM .c1_001110 (fun x _ => x - 1#16) ∧
  Computes .regA .negD (fun x _ => -x) ∧
  Computes .memM .c1_001111 (fun x _ => -x) ∧
  Computes .regA .c0_011110 (fun x _ => -x - 2#16) ∧
  Computes .memM .c1_011110 (fun x _ => -x - 2#16) ∧
  Computes .regA .incD (fun x _ => x + 1#16) ∧
  Computes .memM .c1_011111 (fun x _ => x + 1#16)

/-- The eight codes that copy or complement A or M (R164, R169, R178, R183, R165, R168, R179, R182). -/
def Obligations.CopyAndComplementOfSecondOperand : Prop :=
  Computes .regA .c0_100010 (fun _ y => y) ∧
  Computes .regA .c0_100111 (fun _ y => y) ∧
  Computes .regA .copyA (fun _ y => y) ∧
  Computes .regA .c0_110101 (fun _ y => y) ∧
  Computes .memM .c1_100010 (fun _ y => y) ∧
  Computes .memM .c1_100111 (fun _ y => y) ∧
  Computes .memM .copyM (fun _ y => y) ∧
  Computes .memM .c1_110101 (fun _ y => y) ∧
  Computes .regA .c0_100011 (fun _ y => ~~~y) ∧
  Computes .regA .c0_100110 (fun _ y => ~~~y) ∧
  Computes .regA .notA (fun _ y => ~~~y) ∧
  Computes .regA .c0_110100 (fun _ y => ~~~y) ∧
  Computes .memM .c1_100011 (fun _ y => ~~~y) ∧
  Computes .memM .c1_100110 (fun _ y => ~~~y) ∧
  Computes .memM .notM (fun _ y => ~~~y) ∧
  Computes .memM .c1_110100 (fun _ y => ~~~y)

/-- The codes that compute A-1, -A, -A-2, A+1, and M-1, -M, -M-2, M+1, modulo 2^16 (R180, R181, R184, R185). -/
def Obligations.ArithmeticOnSecondOperand : Prop :=
  Computes .regA .decA (fun _ y => y - 1#16) ∧
  Computes .memM .decM (fun _ y => y - 1#16) ∧
  Computes .regA .negA (fun _ y => -y) ∧
  Computes .memM .negM (fun _ y => -y) ∧
  Computes .regA .c0_110110 (fun _ y => -y - 2#16) ∧
  Computes .memM .c1_110110 (fun _ y => -y - 2#16) ∧
  Computes .regA .incA (fun _ y => y + 1#16) ∧
  Computes .memM .incM (fun _ y => y + 1#16)

/-- The eleven codes whose result is 0 whatever the operands (R138, R154, R162, R166, R170, R172, R174, R177, R186, R189, R191). -/
def Obligations.ConstantZeroForms : Prop :=
  Computes .regA .c0_001000 (fun _ _ => 0x0000#16) ∧
  Computes .regA .c0_011000 (fun _ _ => 0x0000#16) ∧
  Computes .regA .c0_100000 (fun _ _ => 0x0000#16) ∧
  Computes .regA .c0_100100 (fun _ _ => 0x0000#16) ∧
  Computes .regA .c0_101000 (fun _ _ => 0x0000#16) ∧
  Computes .regA .const0 (fun _ _ => 0x0000#16) ∧
  Computes .regA .c0_101100 (fun _ _ => 0x0000#16) ∧
  Computes .regA .c0_101111 (fun _ _ => 0x0000#16) ∧
  Computes .regA .c0_111000 (fun _ _ => 0x0000#16) ∧
  Computes .regA .c0_111011 (fun _ _ => 0x0000#16) ∧
  Computes .regA .c0_111101 (fun _ _ => 0x0000#16) ∧
  Computes .memM .c1_001000 (fun _ _ => 0x0000#16) ∧
  Computes .memM .c1_011000 (fun _ _ => 0x0000#16) ∧
  Computes .memM .c1_100000 (fun _ _ => 0x0000#16) ∧
  Computes .memM .c1_100100 (fun _ _ => 0x0000#16) ∧
  Computes .memM .c1_101000 (fun _ _ => 0x0000#16) ∧
  Computes .memM .c1_101010 (fun _ _ => 0x0000#16) ∧
  Computes .memM .c1_101100 (fun _ _ => 0x0000#16) ∧
  Computes .memM .c1_101111 (fun _ _ => 0x0000#16) ∧
  Computes .memM .c1_111000 (fun _ _ => 0x0000#16) ∧
  Computes .memM .c1_111011 (fun _ _ => 0x0000#16) ∧
  Computes .memM .c1_111101 (fun _ _ => 0x0000#16)

/-- The eleven codes whose result is 0xFFFF whatever the operands (R139, R155, R163, R167, R171, R173, R175, R176, R187, R188, R190). -/
def Obligations.ConstantMinusOneForms : Prop :=
  Computes .regA .c0_001001 (fun _ _ => 0xFFFF#16) ∧
  Computes .regA .c0_011001 (fun _ _ => 0xFFFF#16) ∧
  Computes .regA .c0_100001 (fun _ _ => 0xFFFF#16) ∧
  Computes .regA .c0_100101 (fun _ _ => 0xFFFF#16) ∧
  Computes .regA .c0_101001 (fun _ _ => 0xFFFF#16) ∧
  Computes .regA .c0_101011 (fun _ _ => 0xFFFF#16) ∧
  Computes .regA .c0_101101 (fun _ _ => 0xFFFF#16) ∧
  Computes .regA .c0_101110 (fun _ _ => 0xFFFF#16) ∧
  Computes .regA .c0_111001 (fun _ _ => 0xFFFF#16) ∧
  Computes .regA .constMinus1 (fun _ _ => 0xFFFF#16) ∧
  Computes .regA .c0_111100 (fun _ _ => 0xFFFF#16) ∧
  Computes .memM .c1_001001 (fun _ _ => 0xFFFF#16) ∧
  Computes .memM .c1_011001 (fun _ _ => 0xFFFF#16) ∧
  Computes .memM .c1_100001 (fun _ _ => 0xFFFF#16) ∧
  Computes .memM .c1_100101 (fun _ _ => 0xFFFF#16) ∧
  Computes .memM .c1_101001 (fun _ _ => 0xFFFF#16) ∧
  Computes .memM .c1_101011 (fun _ _ => 0xFFFF#16) ∧
  Computes .memM .c1_101101 (fun _ _ => 0xFFFF#16) ∧
  Computes .memM .c1_101110 (fun _ _ => 0xFFFF#16) ∧
  Computes .memM .c1_111001 (fun _ _ => 0xFFFF#16) ∧
  Computes .memM .c1_111010 (fun _ _ => 0xFFFF#16) ∧
  Computes .memM .c1_111100 (fun _ _ => 0xFFFF#16)

/-- The codes whose results are the constants 1 and 0xFFFE (R193, R192). -/
def Obligations.ConstantOneAndMinusTwo : Prop :=
  Computes .regA .const1 (fun _ _ => 0x0001#16) ∧
  Computes .memM .c1_111111 (fun _ _ => 0x0001#16) ∧
  Computes .regA .c0_111110 (fun _ _ => 0xFFFE#16) ∧
  Computes .memM .c1_111110 (fun _ _ => 0xFFFE#16)

/-- What A holds after any cycle: the instruction word, the ALU result if bit 5 is set, or the old A (R24). -/
def Obligations.AWrittenByAInstructionsAndBitFiveAlone : Prop :=
  ∀ s t : State, step s = .next t →
    let w := fetchWord s
    let out := alu s.d (if w.getLsbD 12 then s.mem.readWord (addressM s) else s.a) (w.extractLsb' 6 6)
    t.a = if w.getLsbD 15 = false then w else if w.getLsbD 5 then out else s.a

/-- What D holds after any cycle: the ALU result if bits 15 and 4 are set, or the old D (R25, R247, R352). -/
def Obligations.DWrittenByBitFourAlone : Prop :=
  ∀ s t : State, step s = .next t →
    let w := fetchWord s
    let out := alu s.d (if w.getLsbD 12 then s.mem.readWord (addressM s) else s.a) (w.extractLsb' 6 6)
    t.d = if w.getLsbD 15 && w.getLsbD 4 then out else s.d

/-- What pc holds after any cycle: 0 on reset, or the low 15 bits of the old A on a taken jump, or the next address (R29). -/
def Obligations.PcTakesOneOfThreeValues : Prop :=
  ∀ s t : State, step s = .next t →
    let w := fetchWord s
    let out := alu s.d (if w.getLsbD 12 then s.mem.readWord (addressM s) else s.a) (w.extractLsb' 6 6)
    t.pc = if resetNow s then 0#15
      else if w.getLsbD 15 && jumpCondition ⟨w.getLsbD 2, w.getLsbD 1, w.getLsbD 0⟩ out then low15 s.a
      else BitVec.ofNat 15 ((s.pc.toNat + 1) % 2 ^ 15)

/-- What memory holds after any cycle: the ALU result at the old low15(A) if bits 15 and 3 are set, all else as before (R53, R54, R61, R243). -/
def Obligations.OnlyTheWordAtAIsWritten : Prop :=
  ∀ s t : State, step s = .next t →
    let w := fetchWord s
    let out := alu s.d (if w.getLsbD 12 then s.mem.readWord (addressM s) else s.a) (w.extractLsb' 6 6)
    if w.getLsbD 15 = true ∧ w.getLsbD 3 = true then
      t.mem.readWord (addressM s) = out ∧
        ∀ k, k ≠ 2 * (addressM s).toNat → k ≠ 2 * (addressM s).toNat + 1 → t.mem.readByte k = s.mem.readByte k
    else t.mem = s.mem

/-- No cycle changes the instruction store or the memory width, and each uses up one reset level (R301, R302, R65, R309). -/
def Obligations.NoStepChangesTheParameters : Prop :=
  ∀ s t : State, step s = .next t → t.imem = s.imem ∧ t.memW = s.memW ∧ t.resets = s.resets.tail

/-- With reset = 1 the next program counter is 0, whatever the jump and A (R351). -/
def Obligations.ResetDominatesTheProgramCounter : Prop :=
  (∀ (load : Bool) (inp : Word) (pc : Addr15), pcNext true load inp pc = 0#15) ∧
  ∀ s t : State, resetNow s = true → step s = .next t → t.pc = 0#15

/-- Two cycles that differ only in the reset input leave the same A, D and memory, or fault alike (R42, R291, R323, R352). -/
def Obligations.ResetChangesNothingButThePc : Prop :=
  ∀ (s : State) (r q : List Bool),
    (∃ t u, step { s with resets := r } = .next t ∧ step { s with resets := q } = .next u ∧
      t.a = u.a ∧ t.d = u.d ∧ t.mem = u.mem ∧ t.imem = u.imem ∧ t.memW = u.memW) ∨
    (∃ f, step { s with resets := r } = .fault f ∧ step { s with resets := q } = .fault f)

/-- Every step keeps both stores canonical and inside their bounds (R302, R304, R305, R213). -/
def Obligations.StepKeepsTheStateWellFormed : Prop :=
  ∀ s t : State, s.wf = true → step s = .next t → t.wf = true

/-- State.reset is a launch state: pc = 0, reset released, both stores well formed (R42, R43, R308, R354). -/
def Obligations.ResetStateIsALaunchState : Prop :=
  Launch State.reset

/-- Every choice of A, D, MEM_W, data memory and instruction store is some launch state (R40, R301, R302, R308, R355). -/
def Obligations.EveryContentHasALaunchState : Prop :=
  ∀ (a d : Word) (memW : Fin 16) (data program : Addr15 → Word),
    ∃ s : State, Launch s ∧ s.a = a ∧ s.d = d ∧ s.memW = memW ∧
      (∀ p, s.imem.readWord p = program p) ∧
      ∀ q : Addr15, q.toNat < 2 ^ memW.val → s.mem.readWord q = data q

/-- Two canonical memories with the same words are the same list (R20, R37, R210). -/
def Obligations.EqualWordsMeanEqualMemories : Prop :=
  ∀ (w : Fin 16) (m n : Memory), m.wf = true → n.wf = true → m.within w.val = true → n.within w.val = true →
    (∀ q : Addr15, q.toNat < 2 ^ w.val → m.readWord q = n.readWord q) → m = n

/-- Writing to a word the value it already holds leaves the memory as it is (R55, R118, R224). -/
def Obligations.StoringTheSameWordChangesNothing : Prop :=
  ∀ (m : Memory) (q : Addr15), m.wf = true → m.writeWord q (m.readWord q) = m

/-- A machine parked at p is parked at p again two cycles later, D and memory unchanged and A = p (R310). -/
def Obligations.ParkedMachineRepeatsWithPeriodTwo : Prop :=
  ∀ (p : Addr15) (s : State), Parked p s →
    ∃ t u, step s = .next t ∧ step t = .next u ∧ Parked p u ∧ t.a = zext16 p ∧ u.a = zext16 p ∧
      t.d = s.d ∧ u.d = s.d ∧ t.mem = s.mem ∧ u.mem = s.mem

/-- zr and ng of a result, and what they say of its signed value (R122). -/
def Obligations.FlagsDescribeTheResult : Prop :=
  ∀ out : Word, (zr out = true ↔ out = 0x0000#16) ∧ ng out = out.getLsbD 15 ∧
    (zr out = true → ng out = false) ∧ (sint out = 0 ↔ zr out = true) ∧ (sint out < 0 ↔ ng out = true) ∧
    (0 < sint out ↔ zr out = false ∧ ng out = false)

/-- The jump decision on the flags is, for each jump code, its condition on the signed result (R263, R264, R265, R266, R267, R268, R269, R270, R272). -/
def Obligations.JumpIsDecidedByTheSignOfTheResult : Prop :=
  ∀ (j : Jump) (out : Word), jumpDecision j (zr out) (ng out) = jumpCondition j out

/-- The truth table of the jump decision for the eight codes and four flag pairs, the unreachable pair (1,1) by the spec's own decision (log entry 13) (R259, 45_control_decode.md section 3). -/
def Obligations.JumpTruthTable : Prop :=
  ((List.range 8).map fun c =>
      [(false, false), (false, true), (true, false), (true, true)].map fun f =>
        jumpDecision (jumpOfBits (BitVec.ofNat 3 c)) f.1 f.2) =
    [[false, false, false, false], [true, false, false, false], [false, false, true, true],
      [true, false, true, true], [false, true, false, true], [true, true, false, true],
      [false, true, true, true], [true, true, true, true]]

/-- The control unit's equations for isC, the write enables, the ALU control and the A register's input (R241, R242, R243, R246, R247, R248). -/
def Obligations.ControlUnitEquations : Prop :=
  ∀ (w out : Word) (zero negative : Bool),
    let c := controlUnit w zero negative
    c.isC = w.getLsbD 15 ∧
    (c.writeA = true ↔ w.getLsbD 15 = false ∨ w.getLsbD 5 = true) ∧
    (c.writeM = true ↔ w.getLsbD 15 = true ∧ w.getLsbD 3 = true) ∧
    (∀ (s : CpuState) (inM : Word) (reset : Bool), (cpuOut s ⟨w, inM, reset⟩).writeM = c.writeM) ∧
    (c.writeD = true ↔ w.getLsbD 15 = true ∧ w.getLsbD 4 = true) ∧
    (c.aluCode.getLsbD 5 = w.getLsbD 11 ∧ c.aluCode.getLsbD 4 = w.getLsbD 10 ∧ c.aluCode.getLsbD 3 = w.getLsbD 9 ∧
      c.aluCode.getLsbD 2 = w.getLsbD 8 ∧ c.aluCode.getLsbD 1 = w.getLsbD 7 ∧ c.aluCode.getLsbD 0 = w.getLsbD 6) ∧
    ctlAInput w out = (if w.getLsbD 15 then out else w) ∧
    (w.getLsbD 15 = false → (ctlAInput w out).toNat ≤ 32767)

/-- The control unit's outputs for an A-instruction, whatever its other bits (R275). -/
def Obligations.AInstructionControlOutputs : Prop :=
  ∀ (w out : Word) (zero negative : Bool), w.getLsbD 15 = false →
    let c := controlUnit w zero negative
    c.isC = false ∧ c.writeA = true ∧ c.writeD = false ∧ c.writeM = false ∧ c.loadPC = false ∧
    c.selectM = w.getLsbD 12 ∧ c.aluCode = w.extractLsb' 6 6 ∧ ctlAInput w out = w

/-- The incrementer adds 1 modulo 2^16, and 0xFFFF gives 0x0000 (R201). -/
def Obligations.IncrementerAddsOne : Prop :=
  (∀ v : Word, (increment v).toNat = (v.toNat + 1) % 2 ^ 16) ∧ increment 0xFFFF#16 = 0x0000#16

/-- The ripple carry chain computes v + 1 (R202, 42_incrementer.md). -/
def Obligations.RippleChainIsTheIncrementer : Prop :=
  ∀ v : Word, rippleIncrement v = increment v

/-- The program counter's next value: reset, else load, else increment modulo 2^15 (R231). -/
def Obligations.ProgramCounterPriority : Prop :=
  ∀ (reset load : Bool) (inp : Word) (pc : Addr15),
    (pcNext reset load inp pc).toNat =
      if reset then 0 else if load then inp.toNat % 2 ^ 15 else (pc.toNat + 1) % 2 ^ 15

/-- The counter built from a 16-bit register, the incrementer and two multiplexers shows the same pc in every cycle (R235, 44_program_counter.md). -/
def Obligations.ProgramCounterBuiltFromARegister : Prop :=
  ∀ (reset load : Bool) (inp r : Word),
    pcRegisterOut (pcRegisterNext reset load inp r) = pcNext reset load inp (pcRegisterOut r)

/-- The 16-bit register is sixteen one-bit cells sharing one load: it takes its input if load = 1, or else keeps its value (R112). -/
def Obligations.RegisterIsCellsSharingOneLoad : Prop :=
  ∀ (load : Bool) (inp s : Word),
    registerNextOfCells load inp s = registerNext load inp s ∧ registerNext load inp s = if load then inp else s

/-- The tree of demultiplexed writes and multiplexed reads behaves as a flat array, for every decomposition (R213). -/
def Obligations.MemoryTreeIsAFlatArray : Prop :=
  ∀ (ks : List Nat) (b : Block ks) (inp : Word) (load : Bool) (address : BitVec ks.sum),
    (∀ a, blockOut ks (blockNext ks inp load address b) a =
      if load = true ∧ a = address then inp else blockOut ks b a) ∧
    (load = false → blockNext ks inp load address b = b)

/-- One-hot write enable: the leaf at the address and no other is loaded when load = 1, none when load = 0 (R219). -/
def Obligations.ExactlyTheAddressedLeafIsLoaded : Prop :=
  ∀ (ks : List Nat) (load : Bool) (address leaf : BitVec ks.sum),
    leafLoad ks load address leaf = true ↔ load = true ∧ leaf = address

/-- The CPU's outputs and next state are those of the spec's step function, outM being absent while writeM = 0 (log entry 10) (R288). -/
def Obligations.CpuStepIsTheSpecsPseudocode : Prop :=
  ∀ (s : CpuState) (i : CpuIn),
    let w := i.instruction
    let isC := w.getLsbD 15
    let y := if w.getLsbD 12 then i.inM else s.a
    let out := alu s.d y (w.extractLsb' 6 6)
    let jump := (w.getLsbD 2 && ng out) || (w.getLsbD 1 && zr out) || (w.getLsbD 0 && !zr out && !ng out)
    (cpuNext s i).a = (if !isC || w.getLsbD 5 then (if isC then out else w) else s.a) ∧
    (cpuNext s i).d = (if isC && w.getLsbD 4 then out else s.d) ∧
    (cpuNext s i).pc = (if i.reset then 0#15 else if jump && isC then low15 s.a else s.pc + 1#15) ∧
    cpuOut s i = ⟨if isC && w.getLsbD 3 then some out else none, isC && w.getLsbD 3, low15 s.a, s.pc⟩

/-- inM changes nothing unless bits 15 and 12 are set, and never changes writeM, addressM or pc (R292, R289). -/
def Obligations.MemoryInputMattersOnlyWhenSelected : Prop :=
  ∀ (s : CpuState) (w u v : Word) (r : Bool),
    (w.getLsbD 15 = false ∨ w.getLsbD 12 = false →
      cpuNext s ⟨w, u, r⟩ = cpuNext s ⟨w, v, r⟩ ∧ cpuOut s ⟨w, u, r⟩ = cpuOut s ⟨w, v, r⟩) ∧
    (cpuOut s ⟨w, u, r⟩).writeM = (cpuOut s ⟨w, v, r⟩).writeM ∧
    (cpuOut s ⟨w, u, r⟩).addressM = (cpuOut s ⟨w, v, r⟩).addressM ∧
    (cpuOut s ⟨w, u, r⟩).pc = (cpuOut s ⟨w, v, r⟩).pc ∧
    (cpuNext s ⟨w, u, true⟩).pc = (cpuNext s ⟨w, v, true⟩).pc

/-- Whatever an instruction does to A, D, pc and memory, the wired CPU does on its word (R282, R286, R288, R303). -/
def Obligations.InstructionsAreWhatTheDatapathDoes : Prop :=
  ∀ (w : Word) (s t : State), exec (decode w) s = .next t →
    let c : CpuState := ⟨s.a, s.d, s.pc⟩
    let i : CpuIn := ⟨w, s.mem.readWord (addressM s), resetNow s⟩
    (⟨t.a, t.d, t.pc⟩ : CpuState) = cpuNext c i ∧
    t.mem = (match (cpuOut c i).outM with
      | some v => s.mem.writeWord (cpuOut c i).addressM v
      | none => s.mem)

/-- The CPU wired to a memory tree and an instruction store does, cycle by cycle, what the machine does (R216, R300, R303, R305, R306). -/
def Obligations.WiredMachineSimulatesTheMachine : Prop :=
  ∀ (ks : List Nat) (m : Wired ks) (s : State), Agrees ks m s →
    (∃ m' s', wiredStep (fun p => s.imem.readWord p) ks (resetNow s) m = .next m' ∧ step s = .next s' ∧
      Agrees ks m' s') ∨
    (∃ f, wiredStep (fun p => s.imem.readWord p) ks (resetNow s) m = .fault f ∧ step s = .fault f)

/-- Bit 15 of A reaches neither the data address nor the jump target (R23, R233, R290). -/
def Obligations.BitFifteenOfAIsNoPartOfAnAddress : Prop :=
  ∀ (s : State) (load reset : Bool) (pc : Addr15),
    addressM { s with a := s.a ^^^ 0x8000#16 } = addressM s ∧
    pcNext reset load (s.a ^^^ 0x8000#16) pc = pcNext reset load s.a pc
end

