-- ==== Sys2Proof/Laws/Memory.lean ====
section
/-! SUPPORT. The laws of the memory list: what a read gives after a write, and that every operation keeps the
canonical form and the bounds. -/

namespace Sys2Proof.Machine

theorem readByte_insertCell (m : Memory) (k j : Nat) (v : Byte) :
    (m.insertCell k v).readByte j = if j = k then v else m.readByte j := by
  induction m with
  | nil => rfl
  | cons c rest ih =>
    obtain ⟨k', v'⟩ := c
    simp only [Memory.insertCell]
    split
    · rfl
    · split
      · next h => subst h; simp only [Memory.readByte]; split <;> rfl
      · next h =>
        simp only [Memory.readByte, ih]
        split
        · next hj => subst hj; rw [if_neg (fun e => h e.symm)]
        · rfl

theorem readByte_filter_ne (m : Memory) (k j : Nat) :
    Memory.readByte (m.filter (fun c => c.1 ≠ k)) j = if j = k then Config.unlistedByte else m.readByte j := by
  induction m with
  | nil => simp [Memory.readByte]
  | cons c rest ih =>
    obtain ⟨k', v'⟩ := c
    rw [List.filter_cons]
    by_cases hk : k' = k
    · subst hk
      simp only [ne_eq, not_true_eq_false, decide_false, Bool.false_eq_true, if_false, ih, Memory.readByte]
      split <;> rfl
    · simp only [ne_eq, hk, not_false_eq_true, decide_true, if_true, Memory.readByte, ih]
      by_cases hj : j = k'
      · subst hj; simp [hk]
      · simp [hj]

/-- A byte read after a byte write: the value written there, the old value elsewhere. -/
@[simp] theorem readByte_writeByte (m : Memory) (k j : Nat) (v : Byte) :
    (m.writeByte k v).readByte j = if j = k then v else m.readByte j := by
  unfold Memory.writeByte
  split
  · next h => rw [readByte_filter_ne, h]
  · exact readByte_insertCell m k j v

theorem append_halves (v : Word) : (v.extractLsb' 8 8 ++ v.extractLsb' 0 8 : BitVec 16) = v :=
  BitVec.eq_of_getLsbD_eq fun i hi => by
    rw [BitVec.getLsbD_append]
    by_cases h : i < 8
    · simp [h]
    · simp [h, show i - 8 < 8 by omega, show 8 + (i - 8) = i by omega]

/-- A word read after a word write: the value written there (R213, R220), the old word elsewhere (R54). -/
@[simp] theorem readWord_writeWord (m : Memory) (a b : Addr15) (v : Word) :
    (m.writeWord a v).readWord b = if b = a then v else m.readWord b := by
  by_cases h : b = a
  · subst h; simp [Memory.readWord, Memory.writeWord, append_halves]
  · have hn : b.toNat ≠ a.toNat := fun e => h (BitVec.eq_of_toNat_eq e)
    have h0 : (2 * b.toNat = 2 * a.toNat) = False := by simp [hn]
    have h1 : (2 * b.toNat = 2 * a.toNat + 1) = False := by simp; omega
    have h2 : (2 * b.toNat + 1 = 2 * a.toNat) = False := by simp; omega
    have h3 : (2 * b.toNat + 1 = 2 * a.toNat + 1) = False := by simp [hn]
    simp only [Memory.readWord, Memory.writeWord, readByte_writeByte, h0, h1, h2, h3, if_false, h]

/-- A byte outside the word written reads as before. -/
theorem readByte_writeWord_of_ne (m : Memory) (a : Addr15) (v : Word) (k : Nat) (h0 : k ≠ 2 * a.toNat)
    (h1 : k ≠ 2 * a.toNat + 1) : (m.writeWord a v).readByte k = m.readByte k := by
  simp [Memory.writeWord, h0, h1]

theorem wf_cons (c : Host.Cell) (m : Memory) :
    Memory.wf (c :: m) = true ↔
      c.2 ≠ Config.unlistedByte ∧ (∀ e ∈ m, c.1 < e.1) ∧ m.wf = true := by
  obtain ⟨k, v⟩ := c
  simp [Memory.wf, and_assoc]

theorem mem_insertCell {m : Memory} {k : Nat} {v : Byte} {e : Host.Cell} (h : e ∈ m.insertCell k v) :
    e = (k, v) ∨ e ∈ m := by
  induction m with
  | nil => simpa [Memory.insertCell] using h
  | cons c rest ih =>
    obtain ⟨k', v'⟩ := c
    simp only [Memory.insertCell] at h
    split at h
    · simpa using h
    · split at h
      · rcases List.mem_cons.1 h with h | h
        · exact .inl h
        · exact .inr (List.mem_cons_of_mem _ h)
      · rcases List.mem_cons.1 h with h | h
        · exact .inr (h ▸ List.mem_cons_self)
        · exact (ih h).imp id (List.mem_cons_of_mem _)

theorem wf_insertCell {m : Memory} (k : Nat) {v : Byte} (hv : v ≠ Config.unlistedByte) (h : m.wf = true) :
    (m.insertCell k v).wf = true := by
  induction m with
  | nil => simpa [Memory.insertCell, wf_cons, Memory.wf] using hv
  | cons c rest ih =>
    obtain ⟨k', v'⟩ := c
    have hc := (wf_cons _ _).1 h
    simp only [Memory.insertCell]
    split
    · next hlt =>
      refine (wf_cons _ _).2 ⟨hv, fun e he => ?_, h⟩
      rcases List.mem_cons.1 he with he | he
      · subst he; exact hlt
      · exact Nat.lt_trans hlt (hc.2.1 e he)
    · split
      · next heq => subst heq; exact (wf_cons _ _).2 ⟨hv, hc.2.1, hc.2.2⟩
      · next hge hne =>
        refine (wf_cons _ _).2 ⟨hc.1, fun e he => ?_, ih hc.2.2⟩
        rcases mem_insertCell he with he | he
        · subst he; show k' < k; omega
        · exact hc.2.1 e he

theorem wf_filter {m : Memory} (p : Host.Cell → Bool) (h : m.wf = true) : Memory.wf (m.filter p) = true := by
  induction m with
  | nil => rfl
  | cons c rest ih =>
    have hc := (wf_cons _ _).1 h
    rw [List.filter_cons]
    split
    · exact (wf_cons _ _).2 ⟨hc.1, fun e he => hc.2.1 e (List.mem_filter.1 he).1, ih hc.2.2⟩
    · exact ih hc.2.2

theorem wf_writeByte {m : Memory} (k : Nat) (v : Byte) (h : m.wf = true) : (m.writeByte k v).wf = true := by
  unfold Memory.writeByte
  split
  · exact wf_filter _ h
  · next hv => exact wf_insertCell k hv h

/-- A write keeps the canonical form. -/
theorem wf_writeWord {m : Memory} (a : Addr15) (v : Word) (h : m.wf = true) : (m.writeWord a v).wf = true :=
  wf_writeByte _ _ (wf_writeByte _ _ h)

theorem mem_writeByte {m : Memory} {k : Nat} {v : Byte} {e : Host.Cell} (h : e ∈ m.writeByte k v) :
    e.1 = k ∨ e ∈ m := by
  unfold Memory.writeByte at h
  split at h
  · exact .inr (List.mem_filter.1 h).1
  · exact (mem_insertCell h).imp (congrArg Prod.fst) id

/-- A write at an address of the store stays within it. -/
theorem within_writeWord {m : Memory} {w : Nat} {a : Addr15} (v : Word) (ha : a.toNat < 2 ^ w)
    (h : m.within w = true) : (m.writeWord a v).within w = true := by
  have hm : ∀ e ∈ m, e.1 < 2 * 2 ^ w := by simpa [Memory.within] using h
  have : ∀ e ∈ m.writeWord a v, e.1 < 2 * 2 ^ w := fun e he => by
    rcases mem_writeByte he with he | he
    · omega
    · rcases mem_writeByte he with he | he
      · omega
      · exact hm e he
  simpa [Memory.within] using this

/-- A byte that no cell lists reads as an unlisted byte. -/
theorem readByte_of_not_listed {m : Memory} {k : Nat} (h : ∀ e ∈ m, e.1 ≠ k) :
    m.readByte k = Config.unlistedByte := by
  induction m with
  | nil => rfl
  | cons c rest ih =>
    obtain ⟨k', v'⟩ := c
    have hk : k' ≠ k := h _ List.mem_cons_self
    simp only [Memory.readByte, if_neg (fun e : k = k' => hk e.symm)]
    exact ih fun e he => h e (List.mem_cons_of_mem _ he)

end Sys2Proof.Machine
end

