-- ==== Sys2Proof/Laws/State.lean ====
section
/-! SUPPORT. One lemma for each field under each update of the state. -/

namespace Sys2Proof.Machine

@[simp] theorem writeLiteral_a (value : Addr15) (s : State) :
    (writeLiteral value s).a = zext16 value := rfl

@[simp] theorem writeLiteral_d (value : Addr15) (s : State) :
    (writeLiteral value s).d = s.d := rfl

@[simp] theorem writeLiteral_pc (value : Addr15) (s : State) :
    (writeLiteral value s).pc = pcNext (resetNow s) false s.a s.pc := rfl

@[simp] theorem writeLiteral_mem (value : Addr15) (s : State) :
    (writeLiteral value s).mem = s.mem := rfl

@[simp] theorem writeLiteral_imem (value : Addr15) (s : State) :
    (writeLiteral value s).imem = s.imem := rfl

@[simp] theorem writeLiteral_memW (value : Addr15) (s : State) :
    (writeLiteral value s).memW = s.memW := rfl

@[simp] theorem writeLiteral_resets (value : Addr15) (s : State) :
    (writeLiteral value s).resets = s.resets := rfl

@[simp] theorem writeBack_a (dest : Dest) (jump : Jump) (out : Word) (s : State) :
    (writeBack dest jump out s).a = if dest.d1 then out else s.a := rfl

@[simp] theorem writeBack_d (dest : Dest) (jump : Jump) (out : Word) (s : State) :
    (writeBack dest jump out s).d = if dest.d2 then out else s.d := rfl

@[simp] theorem writeBack_pc (dest : Dest) (jump : Jump) (out : Word) (s : State) :
    (writeBack dest jump out s).pc = pcNext (resetNow s) (jumpTaken jump out) s.a s.pc := rfl

@[simp] theorem writeBack_mem (dest : Dest) (jump : Jump) (out : Word) (s : State) :
    (writeBack dest jump out s).mem = if dest.d3 then s.mem.writeWord (addressM s) out else s.mem := rfl

@[simp] theorem writeBack_imem (dest : Dest) (jump : Jump) (out : Word) (s : State) :
    (writeBack dest jump out s).imem = s.imem := rfl

@[simp] theorem writeBack_memW (dest : Dest) (jump : Jump) (out : Word) (s : State) :
    (writeBack dest jump out s).memW = s.memW := rfl

@[simp] theorem writeBack_resets (dest : Dest) (jump : Jump) (out : Word) (s : State) :
    (writeBack dest jump out s).resets = s.resets := rfl

@[simp] theorem endCycle_a (s : State) :
    (endCycle s).a = s.a := rfl

@[simp] theorem endCycle_d (s : State) :
    (endCycle s).d = s.d := rfl

@[simp] theorem endCycle_pc (s : State) :
    (endCycle s).pc = s.pc := rfl

@[simp] theorem endCycle_mem (s : State) :
    (endCycle s).mem = s.mem := rfl

@[simp] theorem endCycle_imem (s : State) :
    (endCycle s).imem = s.imem := rfl

@[simp] theorem endCycle_memW (s : State) :
    (endCycle s).memW = s.memW := rfl

@[simp] theorem endCycle_resets (s : State) :
    (endCycle s).resets = s.resets.tail := rfl

@[simp] theorem loadWord_a (s : State) (p : Addr15) (w : Word) :
    (loadWord s p w).a = s.a := rfl

@[simp] theorem loadWord_d (s : State) (p : Addr15) (w : Word) :
    (loadWord s p w).d = s.d := rfl

@[simp] theorem loadWord_pc (s : State) (p : Addr15) (w : Word) :
    (loadWord s p w).pc = s.pc := rfl

@[simp] theorem loadWord_mem (s : State) (p : Addr15) (w : Word) :
    (loadWord s p w).mem = s.mem := rfl

@[simp] theorem loadWord_imem (s : State) (p : Addr15) (w : Word) :
    (loadWord s p w).imem = s.imem.writeWord p w := rfl

@[simp] theorem loadWord_memW (s : State) (p : Addr15) (w : Word) :
    (loadWord s p w).memW = s.memW := rfl

@[simp] theorem loadWord_resets (s : State) (p : Addr15) (w : Word) :
    (loadWord s p w).resets = s.resets := rfl

end Sys2Proof.Machine
end

