-- ==== Sys2Proof/Laws/Ops.lean ====
section
/-! SUPPORT. What each shared operation can do, said once. -/

namespace Sys2Proof.Machine

@[simp] theorem low15_zext16 (v : Addr15) : low15 (zext16 v) = v := by
  simp [low15, zext16]

@[simp] theorem pcIncrement_eq (pc : Addr15) : pcIncrement pc = pc + 1#15 := by
  apply BitVec.eq_of_toNat_eq
  simp [pcIncrement, low15, zext16, increment, BitVec.toNat_add]

@[simp] theorem pcNext_reset (load : Bool) (inp : Word) (pc : Addr15) : pcNext true load inp pc = 0#15 := rfl

@[simp] theorem pcNext_load (inp : Word) (pc : Addr15) : pcNext false true inp pc = low15 inp := rfl

@[simp] theorem pcNext_increment (inp : Word) (pc : Addr15) : pcNext false false inp pc = pc + 1#15 := by
  simp [pcNext]

/-- A C-instruction does one of two things: it faults, changing nothing, or it commits all its writes. -/
theorem computeC_cases (y : YSource) (c : AluCode) (dest : Dest) (jump : Jump) (s : State) :
    (usesM y dest = true ∧ backed s = false ∧ computeC y c dest jump s = .fault (.outOfRange (addressM s))) ∨
    ((usesM y dest = true → backed s = true) ∧
      computeC y c dest jump s = .next (writeBack dest jump (alu (operandX s) (operandY y s) c) s)) := by
  unfold computeC
  cases hu : usesM y dest <;> cases hb : backed s <;> simp

/-- A C-instruction whose memory use, if any, is backed commits its writes. -/
theorem computeC_next {y : YSource} {dest : Dest} {s : State} (c : AluCode) (jump : Jump)
    (h : usesM y dest = true → backed s = true) :
    computeC y c dest jump s = .next (writeBack dest jump (alu (operandX s) (operandY y s) c) s) := by
  unfold computeC
  cases hu : usesM y dest <;> simp_all

/-- A C-instruction that uses memory that is not backed faults. -/
theorem computeC_fault {y : YSource} {dest : Dest} {s : State} (c : AluCode) (jump : Jump)
    (hu : usesM y dest = true) (hb : backed s = false) :
    computeC y c dest jump s = .fault (.outOfRange (addressM s)) := by
  simp [computeC, hu, hb]

@[simp] theorem endCycleOf_next (s : State) : endCycleOf (.next s) = .next (endCycle s) := rfl

@[simp] theorem endCycleOf_fault (f : Fault) : endCycleOf (.fault f) = .fault f := rfl

@[simp] theorem endCycleOf_refused (r : Refusal) : endCycleOf (.refused r) = .refused r := rfl

/-- A cycle that answers a next state ran a meaning that did. -/
theorem endCycleOf_eq_next {r : Result} {t : State} (h : endCycleOf r = .next t) :
    ∃ u, r = .next u ∧ t = endCycle u := by
  cases r with
  | next u => exact ⟨u, rfl, by cases h; rfl⟩
  | fault f => cases h
  | refused r => cases h

/-- The word just placed at an address is the word the instruction store holds there. -/
theorem fetchWord_loadWord (s : State) (w : Word) : fetchWord (loadWord s s.pc w) = w := by
  simp [fetchWord]

end Sys2Proof.Machine
end

