-- ==== Sys2Proof/Laws/Exec.lean ====
section
/-! SUPPORT. What a decoded word does: every C-instruction is the shared operation on the word's own fields. -/

namespace Sys2Proof.Machine

theorem code_of_bits : ∀ c : AluCode,
    c = BitVec.ofBool (c.getLsbD 5) ++ BitVec.ofBool (c.getLsbD 4) ++ BitVec.ofBool (c.getLsbD 3) ++
      BitVec.ofBool (c.getLsbD 2) ++ BitVec.ofBool (c.getLsbD 1) ++ BitVec.ofBool (c.getLsbD 0) := by
  decide

theorem extract6_of_bits (w : Word) :
    w.extractLsb' 6 6 = BitVec.ofBool (w.getLsbD 11) ++ BitVec.ofBool (w.getLsbD 10) ++
      BitVec.ofBool (w.getLsbD 9) ++ BitVec.ofBool (w.getLsbD 8) ++ BitVec.ofBool (w.getLsbD 7) ++
      BitVec.ofBool (w.getLsbD 6) := by
  rw [code_of_bits (w.extractLsb' 6 6)]
  simp

theorem exec_decodeComp (a zx nx zy ny f no : Bool) (dest : Dest) (jump : Jump) (s : State) :
    exec (decodeComp a zx nx zy ny f no dest jump) s =
      computeC (if a then .memM else .regA)
        (BitVec.ofBool zx ++ BitVec.ofBool nx ++ BitVec.ofBool zy ++ BitVec.ofBool ny ++ BitVec.ofBool f ++
          BitVec.ofBool no) dest jump s := by
  cases a <;> cases zx <;> cases nx <;> cases zy <;> cases ny <;> cases f <;> cases no <;> rfl

/-- A word with bit 15 set runs the shared operation on its own fields. -/
theorem exec_decode_C {w : Word} (h : w.getLsbD 15 = true) (s : State) :
    exec (decode w) s =
      computeC (if w.getLsbD 12 then .memM else .regA) (w.extractLsb' 6 6) (destOfBits (w.extractLsb' 3 3))
        (jumpOfBits (w.extractLsb' 0 3)) s := by
  rw [extract6_of_bits, ← exec_decodeComp, decode, if_pos h]

/-- A word with bit 15 clear loads its low 15 bits into A. -/
theorem exec_decode_A {w : Word} (h : w.getLsbD 15 = false) (s : State) :
    exec (decode w) s = .next (writeLiteral (w.extractLsb' 0 15) s) := by
  rw [decode, if_neg (by rw [h]; decide)]; rfl

/-- A step that answers a next state ran the word at the program counter to that state, but for the cycle's
`reset`. -/
theorem step_eq_next {s t : State} (h : step s = .next t) :
    ∃ u, exec (decode (fetchWord s)) s = .next u ∧ t = endCycle u :=
  endCycleOf_eq_next h

end Sys2Proof.Machine
end

