-- ==== Sys2Proof/Laws/PerInstr.lean ====
section
/-! SUPPORT. Per instruction: the encoder writes the bits the instruction's row of the opcode table fixes. -/

namespace Sys2Proof.Laws

/-- The instruction's word, under its row's mask, is its row's match (R87). -/
def EncodesItsRow.Statement (i : Instr) : Prop := encode i &&& rowMask i = rowMatch i

theorem encodeC_row (comp : BitVec 7) (dest : Dest) (jump : Jump) :
    encodeC comp dest jump &&& 0x9FC0#16 = 0b100#3 ++ comp ++ 0#3 ++ 0#3 := by
  obtain ⟨d1, d2, d3⟩ := dest
  obtain ⟨j1, j2, j3⟩ := jump
  cases d1 <;> cases d2 <;> cases d3 <;> cases j1 <;> cases j2 <;> cases j3 <;> revert comp <;> decide

theorem EncodesItsRow.atValue (value : Addr15) : EncodesItsRow.Statement (.atValue value) := by
  refine BitVec.eq_of_getLsbD_eq fun i hi => ?_
  simp only [encode, encodeA, rowMask, rowMatch, BitVec.getLsbD_and, BitVec.getLsbD_append]
  by_cases h : i < 15
  · have : (0x8000#16).getLsbD i = false := by interval_cases i <;> rfl
    simp [this]
  · simp [h]

theorem EncodesItsRow.andDA (dest : Dest) (jump : Jump) : EncodesItsRow.Statement (.andDA dest jump) :=
  (encodeC_row _ dest jump).trans rfl

theorem EncodesItsRow.c0_000001 (dest : Dest) (jump : Jump) : EncodesItsRow.Statement (.c0_000001 dest jump) :=
  (encodeC_row _ dest jump).trans rfl

theorem EncodesItsRow.addDA (dest : Dest) (jump : Jump) : EncodesItsRow.Statement (.addDA dest jump) :=
  (encodeC_row _ dest jump).trans rfl

theorem EncodesItsRow.c0_000011 (dest : Dest) (jump : Jump) : EncodesItsRow.Statement (.c0_000011 dest jump) :=
  (encodeC_row _ dest jump).trans rfl

theorem EncodesItsRow.c0_000100 (dest : Dest) (jump : Jump) : EncodesItsRow.Statement (.c0_000100 dest jump) :=
  (encodeC_row _ dest jump).trans rfl

theorem EncodesItsRow.c0_000101 (dest : Dest) (jump : Jump) : EncodesItsRow.Statement (.c0_000101 dest jump) :=
  (encodeC_row _ dest jump).trans rfl

theorem EncodesItsRow.c0_000110 (dest : Dest) (jump : Jump) : EncodesItsRow.Statement (.c0_000110 dest jump) :=
  (encodeC_row _ dest jump).trans rfl

theorem EncodesItsRow.subAD (dest : Dest) (jump : Jump) : EncodesItsRow.Statement (.subAD dest jump) :=
  (encodeC_row _ dest jump).trans rfl

theorem EncodesItsRow.c0_001000 (dest : Dest) (jump : Jump) : EncodesItsRow.Statement (.c0_001000 dest jump) :=
  (encodeC_row _ dest jump).trans rfl

theorem EncodesItsRow.c0_001001 (dest : Dest) (jump : Jump) : EncodesItsRow.Statement (.c0_001001 dest jump) :=
  (encodeC_row _ dest jump).trans rfl

theorem EncodesItsRow.c0_001010 (dest : Dest) (jump : Jump) : EncodesItsRow.Statement (.c0_001010 dest jump) :=
  (encodeC_row _ dest jump).trans rfl

theorem EncodesItsRow.c0_001011 (dest : Dest) (jump : Jump) : EncodesItsRow.Statement (.c0_001011 dest jump) :=
  (encodeC_row _ dest jump).trans rfl

theorem EncodesItsRow.copyD (dest : Dest) (jump : Jump) : EncodesItsRow.Statement (.copyD dest jump) :=
  (encodeC_row _ dest jump).trans rfl

theorem EncodesItsRow.notD (dest : Dest) (jump : Jump) : EncodesItsRow.Statement (.notD dest jump) :=
  (encodeC_row _ dest jump).trans rfl

theorem EncodesItsRow.decD (dest : Dest) (jump : Jump) : EncodesItsRow.Statement (.decD dest jump) :=
  (encodeC_row _ dest jump).trans rfl

theorem EncodesItsRow.negD (dest : Dest) (jump : Jump) : EncodesItsRow.Statement (.negD dest jump) :=
  (encodeC_row _ dest jump).trans rfl

theorem EncodesItsRow.c0_010000 (dest : Dest) (jump : Jump) : EncodesItsRow.Statement (.c0_010000 dest jump) :=
  (encodeC_row _ dest jump).trans rfl

theorem EncodesItsRow.c0_010001 (dest : Dest) (jump : Jump) : EncodesItsRow.Statement (.c0_010001 dest jump) :=
  (encodeC_row _ dest jump).trans rfl

theorem EncodesItsRow.c0_010010 (dest : Dest) (jump : Jump) : EncodesItsRow.Statement (.c0_010010 dest jump) :=
  (encodeC_row _ dest jump).trans rfl

theorem EncodesItsRow.subDA (dest : Dest) (jump : Jump) : EncodesItsRow.Statement (.subDA dest jump) :=
  (encodeC_row _ dest jump).trans rfl

theorem EncodesItsRow.c0_010100 (dest : Dest) (jump : Jump) : EncodesItsRow.Statement (.c0_010100 dest jump) :=
  (encodeC_row _ dest jump).trans rfl

theorem EncodesItsRow.orDA (dest : Dest) (jump : Jump) : EncodesItsRow.Statement (.orDA dest jump) :=
  (encodeC_row _ dest jump).trans rfl

theorem EncodesItsRow.c0_010110 (dest : Dest) (jump : Jump) : EncodesItsRow.Statement (.c0_010110 dest jump) :=
  (encodeC_row _ dest jump).trans rfl

theorem EncodesItsRow.c0_010111 (dest : Dest) (jump : Jump) : EncodesItsRow.Statement (.c0_010111 dest jump) :=
  (encodeC_row _ dest jump).trans rfl

theorem EncodesItsRow.c0_011000 (dest : Dest) (jump : Jump) : EncodesItsRow.Statement (.c0_011000 dest jump) :=
  (encodeC_row _ dest jump).trans rfl

theorem EncodesItsRow.c0_011001 (dest : Dest) (jump : Jump) : EncodesItsRow.Statement (.c0_011001 dest jump) :=
  (encodeC_row _ dest jump).trans rfl

theorem EncodesItsRow.c0_011010 (dest : Dest) (jump : Jump) : EncodesItsRow.Statement (.c0_011010 dest jump) :=
  (encodeC_row _ dest jump).trans rfl

theorem EncodesItsRow.c0_011011 (dest : Dest) (jump : Jump) : EncodesItsRow.Statement (.c0_011011 dest jump) :=
  (encodeC_row _ dest jump).trans rfl

theorem EncodesItsRow.c0_011100 (dest : Dest) (jump : Jump) : EncodesItsRow.Statement (.c0_011100 dest jump) :=
  (encodeC_row _ dest jump).trans rfl

theorem EncodesItsRow.c0_011101 (dest : Dest) (jump : Jump) : EncodesItsRow.Statement (.c0_011101 dest jump) :=
  (encodeC_row _ dest jump).trans rfl

theorem EncodesItsRow.c0_011110 (dest : Dest) (jump : Jump) : EncodesItsRow.Statement (.c0_011110 dest jump) :=
  (encodeC_row _ dest jump).trans rfl

theorem EncodesItsRow.incD (dest : Dest) (jump : Jump) : EncodesItsRow.Statement (.incD dest jump) :=
  (encodeC_row _ dest jump).trans rfl

theorem EncodesItsRow.c0_100000 (dest : Dest) (jump : Jump) : EncodesItsRow.Statement (.c0_100000 dest jump) :=
  (encodeC_row _ dest jump).trans rfl

theorem EncodesItsRow.c0_100001 (dest : Dest) (jump : Jump) : EncodesItsRow.Statement (.c0_100001 dest jump) :=
  (encodeC_row _ dest jump).trans rfl

theorem EncodesItsRow.c0_100010 (dest : Dest) (jump : Jump) : EncodesItsRow.Statement (.c0_100010 dest jump) :=
  (encodeC_row _ dest jump).trans rfl

theorem EncodesItsRow.c0_100011 (dest : Dest) (jump : Jump) : EncodesItsRow.Statement (.c0_100011 dest jump) :=
  (encodeC_row _ dest jump).trans rfl

theorem EncodesItsRow.c0_100100 (dest : Dest) (jump : Jump) : EncodesItsRow.Statement (.c0_100100 dest jump) :=
  (encodeC_row _ dest jump).trans rfl

theorem EncodesItsRow.c0_100101 (dest : Dest) (jump : Jump) : EncodesItsRow.Statement (.c0_100101 dest jump) :=
  (encodeC_row _ dest jump).trans rfl

theorem EncodesItsRow.c0_100110 (dest : Dest) (jump : Jump) : EncodesItsRow.Statement (.c0_100110 dest jump) :=
  (encodeC_row _ dest jump).trans rfl

theorem EncodesItsRow.c0_100111 (dest : Dest) (jump : Jump) : EncodesItsRow.Statement (.c0_100111 dest jump) :=
  (encodeC_row _ dest jump).trans rfl

theorem EncodesItsRow.c0_101000 (dest : Dest) (jump : Jump) : EncodesItsRow.Statement (.c0_101000 dest jump) :=
  (encodeC_row _ dest jump).trans rfl

theorem EncodesItsRow.c0_101001 (dest : Dest) (jump : Jump) : EncodesItsRow.Statement (.c0_101001 dest jump) :=
  (encodeC_row _ dest jump).trans rfl

theorem EncodesItsRow.const0 (dest : Dest) (jump : Jump) : EncodesItsRow.Statement (.const0 dest jump) :=
  (encodeC_row _ dest jump).trans rfl

theorem EncodesItsRow.c0_101011 (dest : Dest) (jump : Jump) : EncodesItsRow.Statement (.c0_101011 dest jump) :=
  (encodeC_row _ dest jump).trans rfl

theorem EncodesItsRow.c0_101100 (dest : Dest) (jump : Jump) : EncodesItsRow.Statement (.c0_101100 dest jump) :=
  (encodeC_row _ dest jump).trans rfl

theorem EncodesItsRow.c0_101101 (dest : Dest) (jump : Jump) : EncodesItsRow.Statement (.c0_101101 dest jump) :=
  (encodeC_row _ dest jump).trans rfl

theorem EncodesItsRow.c0_101110 (dest : Dest) (jump : Jump) : EncodesItsRow.Statement (.c0_101110 dest jump) :=
  (encodeC_row _ dest jump).trans rfl

theorem EncodesItsRow.c0_101111 (dest : Dest) (jump : Jump) : EncodesItsRow.Statement (.c0_101111 dest jump) :=
  (encodeC_row _ dest jump).trans rfl

theorem EncodesItsRow.copyA (dest : Dest) (jump : Jump) : EncodesItsRow.Statement (.copyA dest jump) :=
  (encodeC_row _ dest jump).trans rfl

theorem EncodesItsRow.notA (dest : Dest) (jump : Jump) : EncodesItsRow.Statement (.notA dest jump) :=
  (encodeC_row _ dest jump).trans rfl

theorem EncodesItsRow.decA (dest : Dest) (jump : Jump) : EncodesItsRow.Statement (.decA dest jump) :=
  (encodeC_row _ dest jump).trans rfl

theorem EncodesItsRow.negA (dest : Dest) (jump : Jump) : EncodesItsRow.Statement (.negA dest jump) :=
  (encodeC_row _ dest jump).trans rfl

theorem EncodesItsRow.c0_110100 (dest : Dest) (jump : Jump) : EncodesItsRow.Statement (.c0_110100 dest jump) :=
  (encodeC_row _ dest jump).trans rfl

theorem EncodesItsRow.c0_110101 (dest : Dest) (jump : Jump) : EncodesItsRow.Statement (.c0_110101 dest jump) :=
  (encodeC_row _ dest jump).trans rfl

theorem EncodesItsRow.c0_110110 (dest : Dest) (jump : Jump) : EncodesItsRow.Statement (.c0_110110 dest jump) :=
  (encodeC_row _ dest jump).trans rfl

theorem EncodesItsRow.incA (dest : Dest) (jump : Jump) : EncodesItsRow.Statement (.incA dest jump) :=
  (encodeC_row _ dest jump).trans rfl

theorem EncodesItsRow.c0_111000 (dest : Dest) (jump : Jump) : EncodesItsRow.Statement (.c0_111000 dest jump) :=
  (encodeC_row _ dest jump).trans rfl

theorem EncodesItsRow.c0_111001 (dest : Dest) (jump : Jump) : EncodesItsRow.Statement (.c0_111001 dest jump) :=
  (encodeC_row _ dest jump).trans rfl

theorem EncodesItsRow.constMinus1 (dest : Dest) (jump : Jump) : EncodesItsRow.Statement (.constMinus1 dest jump) :=
  (encodeC_row _ dest jump).trans rfl

theorem EncodesItsRow.c0_111011 (dest : Dest) (jump : Jump) : EncodesItsRow.Statement (.c0_111011 dest jump) :=
  (encodeC_row _ dest jump).trans rfl

theorem EncodesItsRow.c0_111100 (dest : Dest) (jump : Jump) : EncodesItsRow.Statement (.c0_111100 dest jump) :=
  (encodeC_row _ dest jump).trans rfl

theorem EncodesItsRow.c0_111101 (dest : Dest) (jump : Jump) : EncodesItsRow.Statement (.c0_111101 dest jump) :=
  (encodeC_row _ dest jump).trans rfl

theorem EncodesItsRow.c0_111110 (dest : Dest) (jump : Jump) : EncodesItsRow.Statement (.c0_111110 dest jump) :=
  (encodeC_row _ dest jump).trans rfl

theorem EncodesItsRow.const1 (dest : Dest) (jump : Jump) : EncodesItsRow.Statement (.const1 dest jump) :=
  (encodeC_row _ dest jump).trans rfl

theorem EncodesItsRow.andDM (dest : Dest) (jump : Jump) : EncodesItsRow.Statement (.andDM dest jump) :=
  (encodeC_row _ dest jump).trans rfl

theorem EncodesItsRow.c1_000001 (dest : Dest) (jump : Jump) : EncodesItsRow.Statement (.c1_000001 dest jump) :=
  (encodeC_row _ dest jump).trans rfl

theorem EncodesItsRow.addDM (dest : Dest) (jump : Jump) : EncodesItsRow.Statement (.addDM dest jump) :=
  (encodeC_row _ dest jump).trans rfl

theorem EncodesItsRow.c1_000011 (dest : Dest) (jump : Jump) : EncodesItsRow.Statement (.c1_000011 dest jump) :=
  (encodeC_row _ dest jump).trans rfl

theorem EncodesItsRow.c1_000100 (dest : Dest) (jump : Jump) : EncodesItsRow.Statement (.c1_000100 dest jump) :=
  (encodeC_row _ dest jump).trans rfl

theorem EncodesItsRow.c1_000101 (dest : Dest) (jump : Jump) : EncodesItsRow.Statement (.c1_000101 dest jump) :=
  (encodeC_row _ dest jump).trans rfl

theorem EncodesItsRow.c1_000110 (dest : Dest) (jump : Jump) : EncodesItsRow.Statement (.c1_000110 dest jump) :=
  (encodeC_row _ dest jump).trans rfl

theorem EncodesItsRow.subMD (dest : Dest) (jump : Jump) : EncodesItsRow.Statement (.subMD dest jump) :=
  (encodeC_row _ dest jump).trans rfl

theorem EncodesItsRow.c1_001000 (dest : Dest) (jump : Jump) : EncodesItsRow.Statement (.c1_001000 dest jump) :=
  (encodeC_row _ dest jump).trans rfl

theorem EncodesItsRow.c1_001001 (dest : Dest) (jump : Jump) : EncodesItsRow.Statement (.c1_001001 dest jump) :=
  (encodeC_row _ dest jump).trans rfl

theorem EncodesItsRow.c1_001010 (dest : Dest) (jump : Jump) : EncodesItsRow.Statement (.c1_001010 dest jump) :=
  (encodeC_row _ dest jump).trans rfl

theorem EncodesItsRow.c1_001011 (dest : Dest) (jump : Jump) : EncodesItsRow.Statement (.c1_001011 dest jump) :=
  (encodeC_row _ dest jump).trans rfl

theorem EncodesItsRow.c1_001100 (dest : Dest) (jump : Jump) : EncodesItsRow.Statement (.c1_001100 dest jump) :=
  (encodeC_row _ dest jump).trans rfl

theorem EncodesItsRow.c1_001101 (dest : Dest) (jump : Jump) : EncodesItsRow.Statement (.c1_001101 dest jump) :=
  (encodeC_row _ dest jump).trans rfl

theorem EncodesItsRow.c1_001110 (dest : Dest) (jump : Jump) : EncodesItsRow.Statement (.c1_001110 dest jump) :=
  (encodeC_row _ dest jump).trans rfl

theorem EncodesItsRow.c1_001111 (dest : Dest) (jump : Jump) : EncodesItsRow.Statement (.c1_001111 dest jump) :=
  (encodeC_row _ dest jump).trans rfl

theorem EncodesItsRow.c1_010000 (dest : Dest) (jump : Jump) : EncodesItsRow.Statement (.c1_010000 dest jump) :=
  (encodeC_row _ dest jump).trans rfl

theorem EncodesItsRow.c1_010001 (dest : Dest) (jump : Jump) : EncodesItsRow.Statement (.c1_010001 dest jump) :=
  (encodeC_row _ dest jump).trans rfl

theorem EncodesItsRow.c1_010010 (dest : Dest) (jump : Jump) : EncodesItsRow.Statement (.c1_010010 dest jump) :=
  (encodeC_row _ dest jump).trans rfl

theorem EncodesItsRow.subDM (dest : Dest) (jump : Jump) : EncodesItsRow.Statement (.subDM dest jump) :=
  (encodeC_row _ dest jump).trans rfl

theorem EncodesItsRow.c1_010100 (dest : Dest) (jump : Jump) : EncodesItsRow.Statement (.c1_010100 dest jump) :=
  (encodeC_row _ dest jump).trans rfl

theorem EncodesItsRow.orDM (dest : Dest) (jump : Jump) : EncodesItsRow.Statement (.orDM dest jump) :=
  (encodeC_row _ dest jump).trans rfl

theorem EncodesItsRow.c1_010110 (dest : Dest) (jump : Jump) : EncodesItsRow.Statement (.c1_010110 dest jump) :=
  (encodeC_row _ dest jump).trans rfl

theorem EncodesItsRow.c1_010111 (dest : Dest) (jump : Jump) : EncodesItsRow.Statement (.c1_010111 dest jump) :=
  (encodeC_row _ dest jump).trans rfl

theorem EncodesItsRow.c1_011000 (dest : Dest) (jump : Jump) : EncodesItsRow.Statement (.c1_011000 dest jump) :=
  (encodeC_row _ dest jump).trans rfl

theorem EncodesItsRow.c1_011001 (dest : Dest) (jump : Jump) : EncodesItsRow.Statement (.c1_011001 dest jump) :=
  (encodeC_row _ dest jump).trans rfl

theorem EncodesItsRow.c1_011010 (dest : Dest) (jump : Jump) : EncodesItsRow.Statement (.c1_011010 dest jump) :=
  (encodeC_row _ dest jump).trans rfl

theorem EncodesItsRow.c1_011011 (dest : Dest) (jump : Jump) : EncodesItsRow.Statement (.c1_011011 dest jump) :=
  (encodeC_row _ dest jump).trans rfl

theorem EncodesItsRow.c1_011100 (dest : Dest) (jump : Jump) : EncodesItsRow.Statement (.c1_011100 dest jump) :=
  (encodeC_row _ dest jump).trans rfl

theorem EncodesItsRow.c1_011101 (dest : Dest) (jump : Jump) : EncodesItsRow.Statement (.c1_011101 dest jump) :=
  (encodeC_row _ dest jump).trans rfl

theorem EncodesItsRow.c1_011110 (dest : Dest) (jump : Jump) : EncodesItsRow.Statement (.c1_011110 dest jump) :=
  (encodeC_row _ dest jump).trans rfl

theorem EncodesItsRow.c1_011111 (dest : Dest) (jump : Jump) : EncodesItsRow.Statement (.c1_011111 dest jump) :=
  (encodeC_row _ dest jump).trans rfl

theorem EncodesItsRow.c1_100000 (dest : Dest) (jump : Jump) : EncodesItsRow.Statement (.c1_100000 dest jump) :=
  (encodeC_row _ dest jump).trans rfl

theorem EncodesItsRow.c1_100001 (dest : Dest) (jump : Jump) : EncodesItsRow.Statement (.c1_100001 dest jump) :=
  (encodeC_row _ dest jump).trans rfl

theorem EncodesItsRow.c1_100010 (dest : Dest) (jump : Jump) : EncodesItsRow.Statement (.c1_100010 dest jump) :=
  (encodeC_row _ dest jump).trans rfl

theorem EncodesItsRow.c1_100011 (dest : Dest) (jump : Jump) : EncodesItsRow.Statement (.c1_100011 dest jump) :=
  (encodeC_row _ dest jump).trans rfl

theorem EncodesItsRow.c1_100100 (dest : Dest) (jump : Jump) : EncodesItsRow.Statement (.c1_100100 dest jump) :=
  (encodeC_row _ dest jump).trans rfl

theorem EncodesItsRow.c1_100101 (dest : Dest) (jump : Jump) : EncodesItsRow.Statement (.c1_100101 dest jump) :=
  (encodeC_row _ dest jump).trans rfl

theorem EncodesItsRow.c1_100110 (dest : Dest) (jump : Jump) : EncodesItsRow.Statement (.c1_100110 dest jump) :=
  (encodeC_row _ dest jump).trans rfl

theorem EncodesItsRow.c1_100111 (dest : Dest) (jump : Jump) : EncodesItsRow.Statement (.c1_100111 dest jump) :=
  (encodeC_row _ dest jump).trans rfl

theorem EncodesItsRow.c1_101000 (dest : Dest) (jump : Jump) : EncodesItsRow.Statement (.c1_101000 dest jump) :=
  (encodeC_row _ dest jump).trans rfl

theorem EncodesItsRow.c1_101001 (dest : Dest) (jump : Jump) : EncodesItsRow.Statement (.c1_101001 dest jump) :=
  (encodeC_row _ dest jump).trans rfl

theorem EncodesItsRow.c1_101010 (dest : Dest) (jump : Jump) : EncodesItsRow.Statement (.c1_101010 dest jump) :=
  (encodeC_row _ dest jump).trans rfl

theorem EncodesItsRow.c1_101011 (dest : Dest) (jump : Jump) : EncodesItsRow.Statement (.c1_101011 dest jump) :=
  (encodeC_row _ dest jump).trans rfl

theorem EncodesItsRow.c1_101100 (dest : Dest) (jump : Jump) : EncodesItsRow.Statement (.c1_101100 dest jump) :=
  (encodeC_row _ dest jump).trans rfl

theorem EncodesItsRow.c1_101101 (dest : Dest) (jump : Jump) : EncodesItsRow.Statement (.c1_101101 dest jump) :=
  (encodeC_row _ dest jump).trans rfl

theorem EncodesItsRow.c1_101110 (dest : Dest) (jump : Jump) : EncodesItsRow.Statement (.c1_101110 dest jump) :=
  (encodeC_row _ dest jump).trans rfl

theorem EncodesItsRow.c1_101111 (dest : Dest) (jump : Jump) : EncodesItsRow.Statement (.c1_101111 dest jump) :=
  (encodeC_row _ dest jump).trans rfl

theorem EncodesItsRow.copyM (dest : Dest) (jump : Jump) : EncodesItsRow.Statement (.copyM dest jump) :=
  (encodeC_row _ dest jump).trans rfl

theorem EncodesItsRow.notM (dest : Dest) (jump : Jump) : EncodesItsRow.Statement (.notM dest jump) :=
  (encodeC_row _ dest jump).trans rfl

theorem EncodesItsRow.decM (dest : Dest) (jump : Jump) : EncodesItsRow.Statement (.decM dest jump) :=
  (encodeC_row _ dest jump).trans rfl

theorem EncodesItsRow.negM (dest : Dest) (jump : Jump) : EncodesItsRow.Statement (.negM dest jump) :=
  (encodeC_row _ dest jump).trans rfl

theorem EncodesItsRow.c1_110100 (dest : Dest) (jump : Jump) : EncodesItsRow.Statement (.c1_110100 dest jump) :=
  (encodeC_row _ dest jump).trans rfl

theorem EncodesItsRow.c1_110101 (dest : Dest) (jump : Jump) : EncodesItsRow.Statement (.c1_110101 dest jump) :=
  (encodeC_row _ dest jump).trans rfl

theorem EncodesItsRow.c1_110110 (dest : Dest) (jump : Jump) : EncodesItsRow.Statement (.c1_110110 dest jump) :=
  (encodeC_row _ dest jump).trans rfl

theorem EncodesItsRow.incM (dest : Dest) (jump : Jump) : EncodesItsRow.Statement (.incM dest jump) :=
  (encodeC_row _ dest jump).trans rfl

theorem EncodesItsRow.c1_111000 (dest : Dest) (jump : Jump) : EncodesItsRow.Statement (.c1_111000 dest jump) :=
  (encodeC_row _ dest jump).trans rfl

theorem EncodesItsRow.c1_111001 (dest : Dest) (jump : Jump) : EncodesItsRow.Statement (.c1_111001 dest jump) :=
  (encodeC_row _ dest jump).trans rfl

theorem EncodesItsRow.c1_111010 (dest : Dest) (jump : Jump) : EncodesItsRow.Statement (.c1_111010 dest jump) :=
  (encodeC_row _ dest jump).trans rfl

theorem EncodesItsRow.c1_111011 (dest : Dest) (jump : Jump) : EncodesItsRow.Statement (.c1_111011 dest jump) :=
  (encodeC_row _ dest jump).trans rfl

theorem EncodesItsRow.c1_111100 (dest : Dest) (jump : Jump) : EncodesItsRow.Statement (.c1_111100 dest jump) :=
  (encodeC_row _ dest jump).trans rfl

theorem EncodesItsRow.c1_111101 (dest : Dest) (jump : Jump) : EncodesItsRow.Statement (.c1_111101 dest jump) :=
  (encodeC_row _ dest jump).trans rfl

theorem EncodesItsRow.c1_111110 (dest : Dest) (jump : Jump) : EncodesItsRow.Statement (.c1_111110 dest jump) :=
  (encodeC_row _ dest jump).trans rfl

theorem EncodesItsRow.c1_111111 (dest : Dest) (jump : Jump) : EncodesItsRow.Statement (.c1_111111 dest jump) :=
  (encodeC_row _ dest jump).trans rfl

end Sys2Proof.Laws
end

