-- ==== Sys2Proof/Tests/Slice0.lean ====
section
/-! SUPPORT. The model's own tests: the spec's encodings and vectors, ill-formed terms that the checks refuse, and
for each statement with a hypothesis a witness that meets it. -/

namespace Sys2Proof.Tests

open Sys2Proof.Machine

/-! ## Well-formedness: what each check refuses -/

theorem test_literal_range : literalInRange 32767 = true ∧ literalInRange 32768 = false := by decide

theorem test_at_literal : atLiteral 5 = some (.atValue 5#15) ∧ atLiteral 32768 = none := by decide

theorem test_fan_outs : fanOutsFor 14 Config.ram16kFanOuts = true ∧ fanOutsFor 14 [2, 3, 3, 3] = false ∧
    fanOutsFor 14 [0, 14] = false := by decide

/-- Refused: addresses out of order, an address twice, a cell equal to an unlisted byte. -/
theorem test_memory_wf : Memory.wf [(3, 1#8), (4, 9#8)] = true ∧ Memory.wf [(4, 1#8), (3, 9#8)] = false ∧
    Memory.wf [(3, 1#8), (3, 9#8)] = false ∧ Memory.wf [(3, 0#8)] = false := by decide

/-- Refused: a data cell at word 2^14 when MEM_W = 14. -/
theorem test_state_wf : State.wf { State.reset with mem := [(32767, 1#8)] } = true ∧
    State.wf { State.reset with mem := [(32768, 1#8)] } = false := by decide

/-! ## Decoding: for every constructor a word written out from R81, R82 and the code of its rule -/

theorem test_decode_atValue : decode 0b0000000000000101#16 = .atValue 5#15 ∧
    decode 0b0111111111111111#16 = .atValue 32767#15 ∧ decode 0b0001000000111000#16 = .atValue 4152#15 := ⟨rfl, rfl, rfl⟩

theorem test_decode_a0_00 :
    decode 0b1110000000001010#16 = .andDA ⟨false, false, true⟩ ⟨false, true, false⟩ ∧
    decode 0b1000000001100111#16 = .c0_000001 ⟨true, false, false⟩ ⟨true, true, true⟩ ∧
    decode 0b1100000010111100#16 = .addDA ⟨true, true, true⟩ ⟨true, false, false⟩ ∧
    decode 0b1010000011010001#16 = .c0_000011 ⟨false, true, false⟩ ⟨false, false, true⟩ ∧
    decode 0b1110000100101110#16 = .c0_000100 ⟨true, false, true⟩ ⟨true, true, false⟩ ∧
    decode 0b1000000101000011#16 = .c0_000101 ⟨false, false, false⟩ ⟨false, true, true⟩ ∧
    decode 0b1100000110011000#16 = .c0_000110 ⟨false, true, true⟩ ⟨false, false, false⟩ ∧
    decode 0b1010000111110101#16 = .subAD ⟨true, true, false⟩ ⟨true, false, true⟩ ∧
    decode 0b1110001000001010#16 = .c0_001000 ⟨false, false, true⟩ ⟨false, true, false⟩ ∧
    decode 0b1000001001100111#16 = .c0_001001 ⟨true, false, false⟩ ⟨true, true, true⟩ ∧
    decode 0b1100001010111100#16 = .c0_001010 ⟨true, true, true⟩ ⟨true, false, false⟩ ∧
    decode 0b1010001011010001#16 = .c0_001011 ⟨false, true, false⟩ ⟨false, false, true⟩ ∧
    decode 0b1110001100101110#16 = .copyD ⟨true, false, true⟩ ⟨true, true, false⟩ ∧
    decode 0b1000001101000011#16 = .notD ⟨false, false, false⟩ ⟨false, true, true⟩ ∧
    decode 0b1100001110011000#16 = .decD ⟨false, true, true⟩ ⟨false, false, false⟩ ∧
    decode 0b1010001111110101#16 = .negD ⟨true, true, false⟩ ⟨true, false, true⟩ :=
  ⟨rfl, rfl, rfl, rfl, rfl, rfl, rfl, rfl, rfl, rfl, rfl, rfl, rfl, rfl, rfl, rfl⟩

theorem test_decode_a0_01 :
    decode 0b1000010000010101#16 = .c0_010000 ⟨false, true, false⟩ ⟨true, false, true⟩ ∧
    decode 0b1100010001101010#16 = .c0_010001 ⟨true, false, true⟩ ⟨false, true, false⟩ ∧
    decode 0b1010010010000111#16 = .c0_010010 ⟨false, false, false⟩ ⟨true, true, true⟩ ∧
    decode 0b1110010011011100#16 = .subDA ⟨false, true, true⟩ ⟨true, false, false⟩ ∧
    decode 0b1000010100110001#16 = .c0_010100 ⟨true, true, false⟩ ⟨false, false, true⟩ ∧
    decode 0b1100010101001110#16 = .orDA ⟨false, false, true⟩ ⟨true, true, false⟩ ∧
    decode 0b1010010110100011#16 = .c0_010110 ⟨true, false, false⟩ ⟨false, true, true⟩ ∧
    decode 0b1110010111111000#16 = .c0_010111 ⟨true, true, true⟩ ⟨false, false, false⟩ ∧
    decode 0b1000011000010101#16 = .c0_011000 ⟨false, true, false⟩ ⟨true, false, true⟩ ∧
    decode 0b1100011001101010#16 = .c0_011001 ⟨true, false, true⟩ ⟨false, true, false⟩ ∧
    decode 0b1010011010000111#16 = .c0_011010 ⟨false, false, false⟩ ⟨true, true, true⟩ ∧
    decode 0b1110011011011100#16 = .c0_011011 ⟨false, true, true⟩ ⟨true, false, false⟩ ∧
    decode 0b1000011100110001#16 = .c0_011100 ⟨true, true, false⟩ ⟨false, false, true⟩ ∧
    decode 0b1100011101001110#16 = .c0_011101 ⟨false, false, true⟩ ⟨true, true, false⟩ ∧
    decode 0b1010011110100011#16 = .c0_011110 ⟨true, false, false⟩ ⟨false, true, true⟩ ∧
    decode 0b1110011111111000#16 = .incD ⟨true, true, true⟩ ⟨false, false, false⟩ :=
  ⟨rfl, rfl, rfl, rfl, rfl, rfl, rfl, rfl, rfl, rfl, rfl, rfl, rfl, rfl, rfl, rfl⟩

theorem test_decode_a0_10 :
    decode 0b1100100000011000#16 = .c0_100000 ⟨false, true, true⟩ ⟨false, false, false⟩ ∧
    decode 0b1010100001110101#16 = .c0_100001 ⟨true, true, false⟩ ⟨true, false, true⟩ ∧
    decode 0b1110100010001010#16 = .c0_100010 ⟨false, false, true⟩ ⟨false, true, false⟩ ∧
    decode 0b1000100011100111#16 = .c0_100011 ⟨true, false, false⟩ ⟨true, true, true⟩ ∧
    decode 0b1100100100111100#16 = .c0_100100 ⟨true, true, true⟩ ⟨true, false, false⟩ ∧
    decode 0b1010100101010001#16 = .c0_100101 ⟨false, true, false⟩ ⟨false, false, true⟩ ∧
    decode 0b1110100110101110#16 = .c0_100110 ⟨true, false, true⟩ ⟨true, true, false⟩ ∧
    decode 0b1000100111000011#16 = .c0_100111 ⟨false, false, false⟩ ⟨false, true, true⟩ ∧
    decode 0b1100101000011000#16 = .c0_101000 ⟨false, true, true⟩ ⟨false, false, false⟩ ∧
    decode 0b1010101001110101#16 = .c0_101001 ⟨true, true, false⟩ ⟨true, false, true⟩ ∧
    decode 0b1110101010001010#16 = .const0 ⟨false, false, true⟩ ⟨false, true, false⟩ ∧
    decode 0b1000101011100111#16 = .c0_101011 ⟨true, false, false⟩ ⟨true, true, true⟩ ∧
    decode 0b1100101100111100#16 = .c0_101100 ⟨true, true, true⟩ ⟨true, false, false⟩ ∧
    decode 0b1010101101010001#16 = .c0_101101 ⟨false, true, false⟩ ⟨false, false, true⟩ ∧
    decode 0b1110101110101110#16 = .c0_101110 ⟨true, false, true⟩ ⟨true, true, false⟩ ∧
    decode 0b1000101111000011#16 = .c0_101111 ⟨false, false, false⟩ ⟨false, true, true⟩ :=
  ⟨rfl, rfl, rfl, rfl, rfl, rfl, rfl, rfl, rfl, rfl, rfl, rfl, rfl, rfl, rfl, rfl⟩

theorem test_decode_a0_11 :
    decode 0b1010110000100011#16 = .copyA ⟨true, false, false⟩ ⟨false, true, true⟩ ∧
    decode 0b1110110001111000#16 = .notA ⟨true, true, true⟩ ⟨false, false, false⟩ ∧
    decode 0b1000110010010101#16 = .decA ⟨false, true, false⟩ ⟨true, false, true⟩ ∧
    decode 0b1100110011101010#16 = .negA ⟨true, false, true⟩ ⟨false, true, false⟩ ∧
    decode 0b1010110100000111#16 = .c0_110100 ⟨false, false, false⟩ ⟨true, true, true⟩ ∧
    decode 0b1110110101011100#16 = .c0_110101 ⟨false, true, true⟩ ⟨true, false, false⟩ ∧
    decode 0b1000110110110001#16 = .c0_110110 ⟨true, true, false⟩ ⟨false, false, true⟩ ∧
    decode 0b1100110111001110#16 = .incA ⟨false, false, true⟩ ⟨true, true, false⟩ ∧
    decode 0b1010111000100011#16 = .c0_111000 ⟨true, false, false⟩ ⟨false, true, true⟩ ∧
    decode 0b1110111001111000#16 = .c0_111001 ⟨true, true, true⟩ ⟨false, false, false⟩ ∧
    decode 0b1000111010010101#16 = .constMinus1 ⟨false, true, false⟩ ⟨true, false, true⟩ ∧
    decode 0b1100111011101010#16 = .c0_111011 ⟨true, false, true⟩ ⟨false, true, false⟩ ∧
    decode 0b1010111100000111#16 = .c0_111100 ⟨false, false, false⟩ ⟨true, true, true⟩ ∧
    decode 0b1110111101011100#16 = .c0_111101 ⟨false, true, true⟩ ⟨true, false, false⟩ ∧
    decode 0b1000111110110001#16 = .c0_111110 ⟨true, true, false⟩ ⟨false, false, true⟩ ∧
    decode 0b1100111111001110#16 = .const1 ⟨false, false, true⟩ ⟨true, true, false⟩ :=
  ⟨rfl, rfl, rfl, rfl, rfl, rfl, rfl, rfl, rfl, rfl, rfl, rfl, rfl, rfl, rfl, rfl⟩

theorem test_decode_a1_00 :
    decode 0b1111000000101110#16 = .andDM ⟨true, false, true⟩ ⟨true, true, false⟩ ∧
    decode 0b1001000001000011#16 = .c1_000001 ⟨false, false, false⟩ ⟨false, true, true⟩ ∧
    decode 0b1101000010011000#16 = .addDM ⟨false, true, true⟩ ⟨false, false, false⟩ ∧
    decode 0b1011000011110101#16 = .c1_000011 ⟨true, true, false⟩ ⟨true, false, true⟩ ∧
    decode 0b1111000100001010#16 = .c1_000100 ⟨false, false, true⟩ ⟨false, true, false⟩ ∧
    decode 0b1001000101100111#16 = .c1_000101 ⟨true, false, false⟩ ⟨true, true, true⟩ ∧
    decode 0b1101000110111100#16 = .c1_000110 ⟨true, true, true⟩ ⟨true, false, false⟩ ∧
    decode 0b1011000111010001#16 = .subMD ⟨false, true, false⟩ ⟨false, false, true⟩ ∧
    decode 0b1111001000101110#16 = .c1_001000 ⟨true, false, true⟩ ⟨true, true, false⟩ ∧
    decode 0b1001001001000011#16 = .c1_001001 ⟨false, false, false⟩ ⟨false, true, true⟩ ∧
    decode 0b1101001010011000#16 = .c1_001010 ⟨false, true, true⟩ ⟨false, false, false⟩ ∧
    decode 0b1011001011110101#16 = .c1_001011 ⟨true, true, false⟩ ⟨true, false, true⟩ ∧
    decode 0b1111001100001010#16 = .c1_001100 ⟨false, false, true⟩ ⟨false, true, false⟩ ∧
    decode 0b1001001101100111#16 = .c1_001101 ⟨true, false, false⟩ ⟨true, true, true⟩ ∧
    decode 0b1101001110111100#16 = .c1_001110 ⟨true, true, true⟩ ⟨true, false, false⟩ ∧
    decode 0b1011001111010001#16 = .c1_001111 ⟨false, true, false⟩ ⟨false, false, true⟩ :=
  ⟨rfl, rfl, rfl, rfl, rfl, rfl, rfl, rfl, rfl, rfl, rfl, rfl, rfl, rfl, rfl, rfl⟩

theorem test_decode_a1_01 :
    decode 0b1001010000110001#16 = .c1_010000 ⟨true, true, false⟩ ⟨false, false, true⟩ ∧
    decode 0b1101010001001110#16 = .c1_010001 ⟨false, false, true⟩ ⟨true, true, false⟩ ∧
    decode 0b1011010010100011#16 = .c1_010010 ⟨true, false, false⟩ ⟨false, true, true⟩ ∧
    decode 0b1111010011111000#16 = .subDM ⟨true, true, true⟩ ⟨false, false, false⟩ ∧
    decode 0b1001010100010101#16 = .c1_010100 ⟨false, true, false⟩ ⟨true, false, true⟩ ∧
    decode 0b1101010101101010#16 = .orDM ⟨true, false, true⟩ ⟨false, true, false⟩ ∧
    decode 0b1011010110000111#16 = .c1_010110 ⟨false, false, false⟩ ⟨true, true, true⟩ ∧
    decode 0b1111010111011100#16 = .c1_010111 ⟨false, true, true⟩ ⟨true, false, false⟩ ∧
    decode 0b1001011000110001#16 = .c1_011000 ⟨true, true, false⟩ ⟨false, false, true⟩ ∧
    decode 0b1101011001001110#16 = .c1_011001 ⟨false, false, true⟩ ⟨true, true, false⟩ ∧
    decode 0b1011011010100011#16 = .c1_011010 ⟨true, false, false⟩ ⟨false, true, true⟩ ∧
    decode 0b1111011011111000#16 = .c1_011011 ⟨true, true, true⟩ ⟨false, false, false⟩ ∧
    decode 0b1001011100010101#16 = .c1_011100 ⟨false, true, false⟩ ⟨true, false, true⟩ ∧
    decode 0b1101011101101010#16 = .c1_011101 ⟨true, false, true⟩ ⟨false, true, false⟩ ∧
    decode 0b1011011110000111#16 = .c1_011110 ⟨false, false, false⟩ ⟨true, true, true⟩ ∧
    decode 0b1111011111011100#16 = .c1_011111 ⟨false, true, true⟩ ⟨true, false, false⟩ :=
  ⟨rfl, rfl, rfl, rfl, rfl, rfl, rfl, rfl, rfl, rfl, rfl, rfl, rfl, rfl, rfl, rfl⟩

theorem test_decode_a1_10 :
    decode 0b1101100000111100#16 = .c1_100000 ⟨true, true, true⟩ ⟨true, false, false⟩ ∧
    decode 0b1011100001010001#16 = .c1_100001 ⟨false, true, false⟩ ⟨false, false, true⟩ ∧
    decode 0b1111100010101110#16 = .c1_100010 ⟨true, false, true⟩ ⟨true, true, false⟩ ∧
    decode 0b1001100011000011#16 = .c1_100011 ⟨false, false, false⟩ ⟨false, true, true⟩ ∧
    decode 0b1101100100011000#16 = .c1_100100 ⟨false, true, true⟩ ⟨false, false, false⟩ ∧
    decode 0b1011100101110101#16 = .c1_100101 ⟨true, true, false⟩ ⟨true, false, true⟩ ∧
    decode 0b1111100110001010#16 = .c1_100110 ⟨false, false, true⟩ ⟨false, true, false⟩ ∧
    decode 0b1001100111100111#16 = .c1_100111 ⟨true, false, false⟩ ⟨true, true, true⟩ ∧
    decode 0b1101101000111100#16 = .c1_101000 ⟨true, true, true⟩ ⟨true, false, false⟩ ∧
    decode 0b1011101001010001#16 = .c1_101001 ⟨false, true, false⟩ ⟨false, false, true⟩ ∧
    decode 0b1111101010101110#16 = .c1_101010 ⟨true, false, true⟩ ⟨true, true, false⟩ ∧
    decode 0b1001101011000011#16 = .c1_101011 ⟨false, false, false⟩ ⟨false, true, true⟩ ∧
    decode 0b1101101100011000#16 = .c1_101100 ⟨false, true, true⟩ ⟨false, false, false⟩ ∧
    decode 0b1011101101110101#16 = .c1_101101 ⟨true, true, false⟩ ⟨true, false, true⟩ ∧
    decode 0b1111101110001010#16 = .c1_101110 ⟨false, false, true⟩ ⟨false, true, false⟩ ∧
    decode 0b1001101111100111#16 = .c1_101111 ⟨true, false, false⟩ ⟨true, true, true⟩ :=
  ⟨rfl, rfl, rfl, rfl, rfl, rfl, rfl, rfl, rfl, rfl, rfl, rfl, rfl, rfl, rfl, rfl⟩

theorem test_decode_a1_11 :
    decode 0b1011110000000111#16 = .copyM ⟨false, false, false⟩ ⟨true, true, true⟩ ∧
    decode 0b1111110001011100#16 = .notM ⟨false, true, true⟩ ⟨true, false, false⟩ ∧
    decode 0b1001110010110001#16 = .decM ⟨true, true, false⟩ ⟨false, false, true⟩ ∧
    decode 0b1101110011001110#16 = .negM ⟨false, false, true⟩ ⟨true, true, false⟩ ∧
    decode 0b1011110100100011#16 = .c1_110100 ⟨true, false, false⟩ ⟨false, true, true⟩ ∧
    decode 0b1111110101111000#16 = .c1_110101 ⟨true, true, true⟩ ⟨false, false, false⟩ ∧
    decode 0b1001110110010101#16 = .c1_110110 ⟨false, true, false⟩ ⟨true, false, true⟩ ∧
    decode 0b1101110111101010#16 = .incM ⟨true, false, true⟩ ⟨false, true, false⟩ ∧
    decode 0b1011111000000111#16 = .c1_111000 ⟨false, false, false⟩ ⟨true, true, true⟩ ∧
    decode 0b1111111001011100#16 = .c1_111001 ⟨false, true, true⟩ ⟨true, false, false⟩ ∧
    decode 0b1001111010110001#16 = .c1_111010 ⟨true, true, false⟩ ⟨false, false, true⟩ ∧
    decode 0b1101111011001110#16 = .c1_111011 ⟨false, false, true⟩ ⟨true, true, false⟩ ∧
    decode 0b1011111100100011#16 = .c1_111100 ⟨true, false, false⟩ ⟨false, true, true⟩ ∧
    decode 0b1111111101111000#16 = .c1_111101 ⟨true, true, true⟩ ⟨false, false, false⟩ ∧
    decode 0b1001111110010101#16 = .c1_111110 ⟨false, true, false⟩ ⟨true, false, true⟩ ∧
    decode 0b1101111111101010#16 = .c1_111111 ⟨true, false, true⟩ ⟨false, true, false⟩ :=
  ⟨rfl, rfl, rfl, rfl, rfl, rfl, rfl, rfl, rfl, rfl, rfl, rfl, rfl, rfl, rfl, rfl⟩

/-- Bit 0 of the table's numbering is the word's least significant bit; the bits above nbits are 0. -/
theorem test_table_word : decodeTableWord 16 0xE391 = some (.decD ⟨false, true, false⟩ ⟨false, false, true⟩) ∧
    decodeTableWord 16 0x0005 = some (.atValue 5#15) ∧ decodeTableWord 8 0xE391 = some (.atValue 0x91#15) ∧
    decodeTableWord 32 0xE391 = none := ⟨rfl, rfl, rfl, rfl⟩

/-! ## Parts: spec/95_test_vectors.md sections 2 to 7 -/

theorem test_cells : bitCellNext false true false = false ∧ bitCellNext true true false = true ∧
    bitCellNext false false true = true ∧ bitCellNext true false true = false ∧
    registerNext false 0x1234#16 0xBEEF#16 = 0xBEEF#16 ∧ registerNext true 0x1234#16 0xBEEF#16 = 0x1234#16 := by decide

/-- AL1 to AL39: code, x, y, out, zr, ng. -/
theorem test_alu : ([
    (0b000010#6, 0xFFFF#16, 0x0001#16, 0x0000#16, true, false),
    (0b000010#6, 0x7FFF#16, 0x7FFF#16, 0xFFFE#16, false, true),
    (0b000010#6, 0x8000#16, 0x8000#16, 0x0000#16, true, false),
    (0b000010#6, 0x1234#16, 0x4321#16, 0x5555#16, false, false),
    (0b010011#6, 0x0000#16, 0x0001#16, 0xFFFF#16, false, true),
    (0b010011#6, 0x8000#16, 0x0001#16, 0x7FFF#16, false, false),
    (0b010011#6, 0x7FFF#16, 0xFFFF#16, 0x8000#16, false, true),
    (0b010011#6, 0x1234#16, 0x1234#16, 0x0000#16, true, false),
    (0b000111#6, 0x0001#16, 0x8000#16, 0x7FFF#16, false, false),
    (0b000111#6, 0x0005#16, 0x0003#16, 0xFFFE#16, false, true),
    (0b001111#6, 0x8000#16, 0x0000#16, 0x8000#16, false, true),
    (0b001111#6, 0x0001#16, 0x0000#16, 0xFFFF#16, false, true),
    (0b001111#6, 0x0000#16, 0x0000#16, 0x0000#16, true, false),
    (0b110011#6, 0x0000#16, 0x8000#16, 0x8000#16, false, true),
    (0b110011#6, 0x0000#16, 0xFFFF#16, 0x0001#16, false, false),
    (0b011111#6, 0xFFFF#16, 0x0000#16, 0x0000#16, true, false),
    (0b011111#6, 0x7FFF#16, 0x0000#16, 0x8000#16, false, true),
    (0b110111#6, 0x0000#16, 0xFFFF#16, 0x0000#16, true, false),
    (0b001110#6, 0x0000#16, 0x0000#16, 0xFFFF#16, false, true),
    (0b001110#6, 0x8000#16, 0x0000#16, 0x7FFF#16, false, false),
    (0b110010#6, 0x0000#16, 0x0000#16, 0xFFFF#16, false, true),
    (0b000000#6, 0xF0F0#16, 0xFF00#16, 0xF000#16, false, true),
    (0b010101#6, 0xF0F0#16, 0x0F0F#16, 0xFFFF#16, false, true),
    (0b010101#6, 0x00F0#16, 0x0F00#16, 0x0FF0#16, false, false),
    (0b001101#6, 0x0000#16, 0x0000#16, 0xFFFF#16, false, true),
    (0b001101#6, 0xFFFF#16, 0x0000#16, 0x0000#16, true, false),
    (0b110001#6, 0x0000#16, 0x5555#16, 0xAAAA#16, false, true),
    (0b101010#6, 0xABCD#16, 0x1234#16, 0x0000#16, true, false),
    (0b111111#6, 0xABCD#16, 0x1234#16, 0x0001#16, false, false),
    (0b111010#6, 0xABCD#16, 0x1234#16, 0xFFFF#16, false, true),
    (0b111110#6, 0xABCD#16, 0x1234#16, 0xFFFE#16, false, true),
    (0b010111#6, 0xFFFF#16, 0x0000#16, 0x0000#16, true, false),
    (0b010111#6, 0x0001#16, 0x0002#16, 0x0004#16, false, false),
    (0b000011#6, 0x0001#16, 0x0002#16, 0xFFFC#16, false, true),
    (0b010110#6, 0x0000#16, 0x0000#16, 0xFFFE#16, false, true),
    (0b000001#6, 0xFFFF#16, 0xFFFF#16, 0x0000#16, true, false),
    (0b010100#6, 0x00FF#16, 0xFF00#16, 0x0000#16, true, false),
    (0b000110#6, 0x0005#16, 0x0005#16, 0xFFFF#16, false, true),
    (0b011110#6, 0xFFFE#16, 0x0000#16, 0x0000#16, true, false)] : List (AluCode × Word × Word × Word × Bool × Bool)).all (fun v =>
      alu v.2.1 v.2.2.1 v.1 == v.2.2.2.1 && zr v.2.2.2.1 == v.2.2.2.2.1 && ng v.2.2.2.1 == v.2.2.2.2.2) = true := by
  decide

/-- IN1 to IN11, on the incrementer and on its ripple chain. -/
theorem test_incrementer : ([
    (0x0000#16, 0x0001#16), (0x0001#16, 0x0002#16), (0x0002#16, 0x0003#16), (0x00FF#16, 0x0100#16), (0x0FFF#16, 0x1000#16), (0x1234#16, 0x1235#16),
    (0x7FFE#16, 0x7FFF#16), (0x7FFF#16, 0x8000#16), (0x8000#16, 0x8001#16), (0xFFFE#16, 0xFFFF#16), (0xFFFF#16, 0x0000#16)] : List (Word × Word)).all (fun v => increment v.1 == v.2 && rippleIncrement v.1 == v.2) = true := by decide

/-- CU1 to CU18: instruction, isC, writeA, writeD, writeM, the select bit, the ALU control. -/
theorem test_control : ([
    (0x0000#16, false, true, false, false, false, 0b000000#6),
    (0x0005#16, false, true, false, false, false, 0b000000#6),
    (0x7FFF#16, false, true, false, false, true, 0b111111#6),
    (0x1038#16, false, true, false, false, true, 0b000000#6),
    (0x003F#16, false, true, false, false, false, 0b000000#6),
    (0x8000#16, true, false, false, false, false, 0b000000#6),
    (0xE000#16, true, false, false, false, false, 0b000000#6),
    (0x9FFF#16, true, true, true, true, true, 0b111111#6),
    (0xFFFF#16, true, true, true, true, true, 0b111111#6),
    (0xE308#16, true, false, false, true, false, 0b001100#6),
    (0xEC10#16, true, false, true, false, false, 0b110000#6),
    (0xFC20#16, true, true, false, false, true, 0b110000#6),
    (0xE7D8#16, true, false, true, true, false, 0b011111#6),
    (0xEFF8#16, true, true, true, true, false, 0b111111#6),
    (0x8391#16, true, false, true, false, false, 0b001110#6),
    (0xA391#16, true, false, true, false, false, 0b001110#6),
    (0xC391#16, true, false, true, false, false, 0b001110#6),
    (0xE391#16, true, false, true, false, false, 0b001110#6)] : List (Word × Bool × Bool × Bool × Bool × Bool × AluCode)).all (fun v =>
      (fun c : ControlOut => (c.isC, c.writeA, c.writeD, c.writeM, c.selectM, c.aluCode)) (controlUnit v.1 false false)
        == v.2) = true := by decide

/-- PC1 to PC11: pc, A, load, reset, next pc. -/
theorem test_program_counter : ([
    (0x0000#15, 0x1234#16, false, false, 0x0001#15),
    (0x0010#15, 0x1234#16, false, true, 0x0000#15),
    (0x0010#15, 0x1234#16, true, true, 0x0000#15),
    (0x0010#15, 0x1234#16, true, false, 0x1234#15),
    (0x0010#15, 0x8005#16, true, false, 0x0005#15),
    (0x0010#15, 0xFFFF#16, true, false, 0x7FFF#15),
    (0x7FFF#15, 0x0000#16, false, false, 0x0000#15),
    (0x7FFE#15, 0x0000#16, false, false, 0x7FFF#15),
    (0x7FFF#15, 0x7FFF#16, false, true, 0x0000#15),
    (0x0042#15, 0x0042#16, true, false, 0x0042#15),
    (0x0000#15, 0x0000#16, true, false, 0x0000#15)] : List (Addr15 × Word × Bool × Bool × Addr15)).all (fun v =>
      pcNext v.2.2.2.1 v.2.2.1 v.2.1 v.1 == v.2.2.2.2) = true := by decide

/-- A 64-word block whose word at each address is 0x0100 plus the address. -/
def block64 : Block [3, 3] := blockOfWords [3, 3] fun a => 0x0100#16 + a.setWidth 16

/-- MB1 to MB5 and E8: a write is read back at its address in the next cycle, not in its own, and nowhere else. -/
theorem test_block : blockOut [3, 3] block64 (0b000001#6) = 0x0101#16 ∧
    blockOut [3, 3] (blockNext [3, 3] 0x00AA#16 true (0b000001#6) block64) (0b000001#6) = 0x00AA#16 ∧
    blockOut [3, 3] (blockNext [3, 3] 0x00AA#16 true (0b000001#6) block64) (0b000000#6) = 0x0100#16 ∧
    blockOut [3, 3] (blockNext [3, 3] 0x00AA#16 false (0b000001#6) block64) (0b000001#6) = 0x0101#16 := by decide

/-- LE1 and LE5: which of the 64 leaves are loaded. -/
theorem test_leaf_load :
    (List.range 64).filter (fun n => leafLoad [3, 3] true (0b101011#6) (BitVec.ofNat 6 n)) = [43] ∧
    (List.range 64).filter (fun n => leafLoad [3, 3] false (0b101011#6) (BitVec.ofNat 6 n)) = [] := by decide

/-! ## Steps: spec/95_test_vectors.md sections 8 to 10 -/

/-- A state with one instruction at pc and one word at the data address. -/
def vec (word inM a d : Word) (pc : Addr15) (reset : Bool) : State :=
  { State.reset with
    a := a, d := d, pc := pc, resets := [reset]
    mem := Memory.writeWord [] (low15 a) inM, imem := Memory.writeWord [] pc word }

/-- A, D, pc and the word at the OLD data address after a step; nothing if the step does not answer a next
state. -/
def after (s : State) : Option (Word × Word × Addr15 × Word) :=
  match step s with
  | .next t => some (t.a, t.d, t.pc, t.mem.readWord (addressM s))
  | .fault _ => none
  | .refused _ => none

/-- The address of the fault a step answers. -/
def faultAt (s : State) : Option Addr15 :=
  match step s with
  | .fault (.outOfRange a) => some a
  | .next _ => none
  | .refused _ => none

/-- CPU1 to CPU10. -/
theorem test_cpu1_to_cpu10 : ([
    (vec 0x0005#16 0xBEEF#16 0x0100#16 0x0200#16 0x0010#15 false, 0x0005#16, 0x0200#16, 0x0011#15, 0xBEEF#16),
    (vec 0x7FFF#16 0xBEEF#16 0x8000#16 0x0000#16 0x7FFF#15 false, 0x7FFF#16, 0x0000#16, 0x0000#15, 0xBEEF#16),
    (vec 0x0000#16 0xBEEF#16 0xFFFF#16 0x1111#16 0x0123#15 true, 0x0000#16, 0x1111#16, 0x0000#15, 0xBEEF#16),
    (vec 0xE391#16 0xBEEF#16 0x0040#16 0x0002#16 0x0005#15 false, 0x0040#16, 0x0001#16, 0x0040#15, 0xBEEF#16),
    (vec 0xE391#16 0xBEEF#16 0x0040#16 0x0001#16 0x0005#15 false, 0x0040#16, 0x0000#16, 0x0006#15, 0xBEEF#16),
    (vec 0xE391#16 0xBEEF#16 0x0040#16 0x0000#16 0x0005#15 false, 0x0040#16, 0xFFFF#16, 0x0006#15, 0xBEEF#16),
    (vec 0xE7D1#16 0xBEEF#16 0x0040#16 0x0000#16 0x0005#15 false, 0x0040#16, 0x0001#16, 0x0040#15, 0xBEEF#16),
    (vec 0xE7D1#16 0xBEEF#16 0x0040#16 0xFFFF#16 0x0005#15 false, 0x0040#16, 0x0000#16, 0x0006#15, 0xBEEF#16),
    (vec 0xE7D1#16 0xBEEF#16 0x0040#16 0x7FFF#16 0x0005#15 false, 0x0040#16, 0x8000#16, 0x0006#15, 0xBEEF#16),
    (vec 0x8391#16 0xBEEF#16 0x0040#16 0x0002#16 0x0005#15 false, 0x0040#16, 0x0001#16, 0x0040#15, 0xBEEF#16)] : List (State × Word × Word × Addr15 × Word)).all (fun v => after v.1 == some v.2) = true := by decide

/-- CPU11 to CPU20. -/
theorem test_cpu11_to_cpu20 : ([
    (vec 0xE7D1#16 0xBEEF#16 0x0040#16 0x0000#16 0x0005#15 true, 0x0040#16, 0x0001#16, 0x0000#15, 0xBEEF#16),
    (vec 0xFC10#16 0xBEEF#16 0x0010#16 0x0000#16 0x0000#15 false, 0x0010#16, 0xBEEF#16, 0x0001#15, 0xBEEF#16),
    (vec 0xF088#16 0x0003#16 0x0005#16 0x0005#16 0x0001#15 false, 0x0005#16, 0x0005#16, 0x0002#15, 0x0008#16),
    (vec 0xFDC8#16 0xFFFF#16 0x0007#16 0x1234#16 0x0009#15 false, 0x0007#16, 0x1234#16, 0x000A#15, 0x0000#16),
    (vec 0xFCA8#16 0x0101#16 0x0000#16 0x1234#16 0x0009#15 false, 0x0100#16, 0x1234#16, 0x000A#15, 0x0100#16),
    (vec 0xE320#16 0xBEEF#16 0x0010#16 0x8123#16 0x0002#15 false, 0x8123#16, 0x8123#16, 0x0003#15, 0xBEEF#16),
    (vec 0xE327#16 0xBEEF#16 0x0040#16 0x0100#16 0x0002#15 false, 0x0100#16, 0x0100#16, 0x0040#15, 0xBEEF#16),
    (vec 0xE307#16 0xBEEF#16 0x8005#16 0x0000#16 0x0002#15 false, 0x8005#16, 0x0000#16, 0x0005#15, 0xBEEF#16),
    (vec 0xE308#16 0xBEEF#16 0x8010#16 0x00AB#16 0x0002#15 false, 0x8010#16, 0x00AB#16, 0x0003#15, 0x00AB#16),
    (vec 0xEA87#16 0xBEEF#16 0x0012#16 0x0009#16 0x0013#15 false, 0x0012#16, 0x0009#16, 0x0012#15, 0xBEEF#16)] : List (State × Word × Word × Addr15 × Word)).all (fun v => after v.1 == some v.2) = true := by decide

/-- CPU21 to CPU29. -/
theorem test_cpu21_to_cpu29 : ([
    (vec 0xEA80#16 0xBEEF#16 0x0012#16 0x0009#16 0x0013#15 false, 0x0012#16, 0x0009#16, 0x0014#15, 0xBEEF#16),
    (vec 0xE4D4#16 0xBEEF#16 0x0005#16 0x0003#16 0x0020#15 false, 0x0005#16, 0xFFFE#16, 0x0005#15, 0xBEEF#16),
    (vec 0xE4D4#16 0xBEEF#16 0x0001#16 0x8000#16 0x0020#15 false, 0x0001#16, 0x7FFF#16, 0x0021#15, 0xBEEF#16),
    (vec 0xE302#16 0xBEEF#16 0x0030#16 0x0000#16 0x7FFF#15 false, 0x0030#16, 0x0000#16, 0x0030#15, 0xBEEF#16),
    (vec 0xE302#16 0xBEEF#16 0x0030#16 0x0001#16 0x7FFF#15 false, 0x0030#16, 0x0001#16, 0x0000#15, 0xBEEF#16),
    (vec 0xEFF8#16 0xBEEF#16 0x0020#16 0x0000#16 0x0000#15 false, 0x0001#16, 0x0001#16, 0x0001#15, 0x0001#16),
    (vec 0xE5F0#16 0xBEEF#16 0x0003#16 0x0004#16 0x0000#15 false, 0x0008#16, 0x0008#16, 0x0001#15, 0xBEEF#16),
    (vec 0xFC98#16 0x0000#16 0x0003#16 0x0004#16 0x0000#15 false, 0x0003#16, 0xFFFF#16, 0x0001#15, 0xFFFF#16),
    (vec 0x1FFF#16 0x5555#16 0x0003#16 0x0004#16 0x0000#15 false, 0x1FFF#16, 0x0004#16, 0x0001#15, 0x5555#16)] : List (State × Word × Word × Addr15 × Word)).all (fun v => after v.1 == some v.2) = true := by decide

/-- SY1 to SY14: MEM_W, word, A, and whether the step faults; the fault names the low 15 bits of A. -/
theorem test_out_of_range : ([
    (14, 0xE308#16, 0x3FFF#16, false),
    (14, 0xE308#16, 0x4000#16, true),
    (14, 0xFC10#16, 0x4000#16, true),
    (14, 0xEC10#16, 0x4000#16, false),
    (14, 0x4000#16, 0x7FFF#16, false),
    (14, 0xE307#16, 0x6000#16, false),
    (14, 0xFA90#16, 0x4000#16, true),
    (14, 0xE308#16, 0xC000#16, true),
    (14, 0xE308#16, 0x8005#16, false),
    (15, 0xE308#16, 0x4000#16, false),
    (15, 0xE308#16, 0xFFFF#16, false),
    (13, 0xFC10#16, 0x2000#16, true),
    (13, 0xFC10#16, 0x1FFF#16, false),
    (14, 0xE30F#16, 0x4000#16, true)] : List (Fin 16 × Word × Word × Bool)).all (fun v =>
      faultAt { vec v.2.1 0#16 v.2.2.1 1#16 2#15 false with memW := v.1 } ==
        if v.2.2.2 then some (low15 v.2.2.1) else none) = true := by decide

/-- SY1, SY10 and SY11: the store lands at the last word of each memory. -/
theorem test_store_at_top :
    after (vec 0xE308#16 0#16 0x3FFF#16 0xABCD#16 2#15 false) = some (0x3FFF#16, 0xABCD#16, 3#15, 0xABCD#16) ∧
    after { vec 0xE308#16 0#16 0xFFFF#16 0xABCD#16 2#15 false with memW := 15 } =
      some (0xFFFF#16, 0xABCD#16, 3#15, 0xABCD#16) := by decide

/-- P7, cycle 1: with reset = 1 the store still happens and pc becomes 0. -/
theorem test_reset_keeps_the_store :
    after (vec 0xFDC8#16 0x00FF#16 0x0010#16 7#16 1#15 true) = some (0x0010#16, 7#16, 0#15, 0x0100#16) := by decide

/-- Each bit of the word in its own place: `D=D-1` once 0xE391 is placed where reset fetches. -/
theorem test_fetch_from_reset :
    after (State.reset.withFetchWord 16 0x7FFF) = some (0x7FFF#16, 0#16, 1#15, 0#16) ∧
    after (State.reset.withFetchWord 16 0xE391) = some (0#16, 0xFFFF#16, 1#15, 0#16) := by decide

/-! ## Witnesses: for each statement with hypotheses, a state and operands that meet them together -/

/-- Bits 14 and 13 set and clear. -/
theorem witness_IgnoredBitsDoNotChangeTheInstruction : (0xE391#16).getLsbD 15 = true ∧
    (0x8391#16).getLsbD 15 = true ∧ 0xE391#16 ||| 0x6000#16 = 0x8391#16 ||| 0x6000#16 ∧ 0xE391#16 ≠ 0x8391#16 := by
  decide

/-- A word and an instruction of its row, with other fields than the word's. -/
theorem witness_OpcodeRowsAreDisjointAndCoverEveryWord :
    0x8391#16 &&& rowMask (.decD ⟨true, true, true⟩ ⟨true, true, true⟩) =
      rowMatch (.decD ⟨true, true, true⟩ ⟨true, true, true⟩) := by decide

/-- The last backed address, 0x3FFF, under an A with bit 15 set, at the last program counter. -/
def atLimit : State := vec 0xFFF8#16 0x00F1#16 0xBFFF#16 0x0FF0#16 0x7FFF#15 false

/-- The first address that is not backed, 0x4000, in a cycle with reset. -/
def beyond : State := vec 0xFFF8#16 0#16 0x4000#16 0x0FF0#16 0x7FFF#15 true

/-- The clause of a next state, and the clause of a fault. -/
theorem witness_StepRunsTheDecodedInstruction :
    (decode (atLimit.imem.readWord atLimit.pc) = .c1_111111 ⟨true, true, true⟩ ⟨false, false, false⟩ ∧
      (Instr.c1_111111 ⟨true, true, true⟩ ⟨false, false, false⟩).wellFormed = true ∧
      ∃ t, exec (.c1_111111 ⟨true, true, true⟩ ⟨false, false, false⟩) atLimit = .next t) ∧
    (decode (beyond.imem.readWord beyond.pc) = .c1_111111 ⟨true, true, true⟩ ⟨false, false, false⟩ ∧
      exec (.c1_111111 ⟨true, true, true⟩ ⟨false, false, false⟩) beyond = .fault (.outOfRange 0x4000#15)) :=
  ⟨⟨rfl, rfl, _, rfl⟩, rfl, rfl⟩

/-- Both branches: a use at the first unbacked address, a use at the last backed one, and no use at an unbacked
one. -/
theorem witness_StepFaultsExactlyOnUnbackedMemoryUse :
    (fetchedUsesM beyond = true ∧ 2 ^ beyond.memW.val ≤ (low15 beyond.a).toNat) ∧
    (fetchedUsesM atLimit = true ∧ ¬ 2 ^ atLimit.memW.val ≤ (low15 atLimit.a).toNat) ∧
    fetchedUsesM (vec 0xEC10#16 0#16 0x4000#16 0#16 0#15 false) = false := by decide

/-- A used address beyond any smaller memory. -/
theorem witness_FullDataMemoryNeverFaults :
    ({ beyond with a := 0xFFFF#16, memW := 15 } : State).memW = 15 ∧
    fetchedUsesM { beyond with a := 0xFFFF#16, memW := 15 } = true := by decide

/-- The backed and the unbacked clause, at the addresses where they meet. -/
theorem witness_EveryCInstructionWordHasItsEffect :
    (0xFFF8#16).getLsbD 15 = true ∧ ((0xFFF8#16).getLsbD 12 = true ∨ (0xFFF8#16).getLsbD 3 = true) ∧
    (addressM atLimit).toNat < 2 ^ atLimit.memW.val ∧ 2 ^ beyond.memW.val ≤ (addressM beyond).toNat := by decide

theorem witness_AInstructionLoadsItsLiteral : (0x7FFF#16).getLsbD 15 = false := by decide

/-- A, D, pc and the word at 0x3FFF after a meaning that answers a next state. -/
def resultOf (r : Result) : Option (Word × Word × Addr15 × Word) :=
  match r with
  | .next t => some (t.a, t.d, t.pc, t.mem.readWord 0x3FFF#15)
  | .fault _ => none
  | .refused _ => none

/-- The hypothesis of every statement that says `Computes`: the word at A has a place in the memory. -/
theorem witness_atLimit_backed : (addressM atLimit).toNat < 2 ^ atLimit.memW.val := by decide

/-- Each of these instructions meets it and completes: with A = 0xBFFF, D = 0x0FF0, M = 0x00F1. -/
theorem witness_BitwiseAndForms : ([
    (exec (.andDA ⟨true, true, true⟩ ⟨true, false, false⟩) atLimit, 0x0FF0#16, 0x0FF0#16, 0x0000#15, 0x0FF0#16),
    (exec (.andDM ⟨false, true, true⟩ ⟨false, true, false⟩) atLimit, 0xBFFF#16, 0x00F0#16, 0x0000#15, 0x00F0#16),
    (exec (.c0_000100 ⟨true, false, true⟩ ⟨false, false, true⟩) atLimit, 0x0000#16, 0x0FF0#16, 0x0000#15, 0x0000#16),
    (exec (.c1_000100 ⟨false, false, true⟩ ⟨true, true, false⟩) atLimit, 0xBFFF#16, 0x0FF0#16, 0x0000#15, 0x0F00#16),
    (exec (.c0_010000 ⟨true, true, true⟩ ⟨false, true, true⟩) atLimit, 0xB00F#16, 0xB00F#16, 0x0000#15, 0xB00F#16),
    (exec (.c1_010000 ⟨false, true, true⟩ ⟨true, false, false⟩) atLimit, 0xBFFF#16, 0x0001#16, 0x0000#15, 0x0001#16),
    (exec (.c0_010100 ⟨true, false, true⟩ ⟨false, true, false⟩) atLimit, 0x4000#16, 0x0FF0#16, 0x0000#15, 0x4000#16),
    (exec (.c1_010100 ⟨false, false, true⟩ ⟨false, false, true⟩) atLimit, 0xBFFF#16, 0x0FF0#16, 0x0000#15, 0xF00E#16)] : List (Result × Word × Word × Addr15 × Word)).all (fun v => resultOf v.1 == some v.2) = true := by decide

/-- Each of these instructions meets it and completes: with A = 0xBFFF, D = 0x0FF0, M = 0x00F1. -/
theorem witness_BitwiseOrForms : ([
    (exec (.orDA ⟨true, true, true⟩ ⟨true, false, false⟩) atLimit, 0xBFFF#16, 0xBFFF#16, 0x3FFF#15, 0xBFFF#16),
    (exec (.orDM ⟨false, true, true⟩ ⟨false, true, false⟩) atLimit, 0xBFFF#16, 0x0FF1#16, 0x0000#15, 0x0FF1#16),
    (exec (.c0_010001 ⟨true, false, true⟩ ⟨false, false, true⟩) atLimit, 0x4FF0#16, 0x0FF0#16, 0x3FFF#15, 0x4FF0#16),
    (exec (.c1_010001 ⟨false, false, true⟩ ⟨true, true, false⟩) atLimit, 0xBFFF#16, 0x0FF0#16, 0x3FFF#15, 0xFFFE#16),
    (exec (.c0_000101 ⟨true, true, true⟩ ⟨false, true, true⟩) atLimit, 0xFFFF#16, 0xFFFF#16, 0x0000#15, 0xFFFF#16),
    (exec (.c1_000101 ⟨false, true, true⟩ ⟨true, false, false⟩) atLimit, 0xBFFF#16, 0xF0FF#16, 0x3FFF#15, 0xF0FF#16),
    (exec (.c0_000001 ⟨true, false, true⟩ ⟨false, true, false⟩) atLimit, 0xF00F#16, 0x0FF0#16, 0x0000#15, 0xF00F#16),
    (exec (.c1_000001 ⟨false, false, true⟩ ⟨false, false, true⟩) atLimit, 0xBFFF#16, 0x0FF0#16, 0x0000#15, 0xFF0F#16)] : List (Result × Word × Word × Addr15 × Word)).all (fun v => resultOf v.1 == some v.2) = true := by decide

/-- Each of these instructions meets it and completes: with A = 0xBFFF, D = 0x0FF0, M = 0x00F1. -/
theorem witness_SumForms : ([
    (exec (.addDA ⟨true, true, true⟩ ⟨true, false, false⟩) atLimit, 0xCFEF#16, 0xCFEF#16, 0x3FFF#15, 0xCFEF#16),
    (exec (.addDM ⟨false, true, true⟩ ⟨false, true, false⟩) atLimit, 0xBFFF#16, 0x10E1#16, 0x0000#15, 0x10E1#16),
    (exec (.c0_010111 ⟨true, false, true⟩ ⟨false, false, true⟩) atLimit, 0xCFF0#16, 0x0FF0#16, 0x0000#15, 0xCFF0#16),
    (exec (.c1_010111 ⟨false, false, true⟩ ⟨true, true, false⟩) atLimit, 0xBFFF#16, 0x0FF0#16, 0x0000#15, 0x10E2#16),
    (exec (.c0_000011 ⟨true, true, true⟩ ⟨false, true, true⟩) atLimit, 0x3010#16, 0x3010#16, 0x3FFF#15, 0x3010#16),
    (exec (.c1_000011 ⟨false, true, true⟩ ⟨true, false, false⟩) atLimit, 0xBFFF#16, 0xEF1E#16, 0x3FFF#15, 0xEF1E#16),
    (exec (.c0_010110 ⟨true, false, true⟩ ⟨false, true, false⟩) atLimit, 0x300F#16, 0x0FF0#16, 0x0000#15, 0x300F#16),
    (exec (.c1_010110 ⟨false, false, true⟩ ⟨false, false, true⟩) atLimit, 0xBFFF#16, 0x0FF0#16, 0x0000#15, 0xEF1D#16)] : List (Result × Word × Word × Addr15 × Word)).all (fun v => resultOf v.1 == some v.2) = true := by decide

/-- Each of these instructions meets it and completes: with A = 0xBFFF, D = 0x0FF0, M = 0x00F1. -/
theorem witness_DifferenceForms : ([
    (exec (.subDA ⟨true, true, true⟩ ⟨true, false, false⟩) atLimit, 0x4FF1#16, 0x4FF1#16, 0x0000#15, 0x4FF1#16),
    (exec (.subDM ⟨false, true, true⟩ ⟨false, true, false⟩) atLimit, 0xBFFF#16, 0x0EFF#16, 0x0000#15, 0x0EFF#16),
    (exec (.subAD ⟨true, false, true⟩ ⟨false, false, true⟩) atLimit, 0xB00F#16, 0x0FF0#16, 0x0000#15, 0xB00F#16),
    (exec (.subMD ⟨false, false, true⟩ ⟨true, true, false⟩) atLimit, 0xBFFF#16, 0x0FF0#16, 0x3FFF#15, 0xF101#16),
    (exec (.c0_000110 ⟨true, true, true⟩ ⟨false, true, true⟩) atLimit, 0x4FF0#16, 0x4FF0#16, 0x3FFF#15, 0x4FF0#16),
    (exec (.c1_000110 ⟨false, true, true⟩ ⟨true, false, false⟩) atLimit, 0xBFFF#16, 0x0EFE#16, 0x0000#15, 0x0EFE#16),
    (exec (.c0_010010 ⟨true, false, true⟩ ⟨false, true, false⟩) atLimit, 0xB00E#16, 0x0FF0#16, 0x0000#15, 0xB00E#16),
    (exec (.c1_010010 ⟨false, false, true⟩ ⟨false, false, true⟩) atLimit, 0xBFFF#16, 0x0FF0#16, 0x0000#15, 0xF100#16)] : List (Result × Word × Word × Addr15 × Word)).all (fun v => resultOf v.1 == some v.2) = true := by decide

/-- Each of these instructions meets it and completes: with A = 0xBFFF, D = 0x0FF0, M = 0x00F1. -/
theorem witness_CopyAndComplementOfD : ([
    (exec (.c0_001010 ⟨true, true, true⟩ ⟨true, false, false⟩) atLimit, 0x0FF0#16, 0x0FF0#16, 0x0000#15, 0x0FF0#16),
    (exec (.copyD ⟨false, true, true⟩ ⟨false, true, false⟩) atLimit, 0xBFFF#16, 0x0FF0#16, 0x0000#15, 0x0FF0#16),
    (exec (.c0_011011 ⟨true, false, true⟩ ⟨false, false, true⟩) atLimit, 0x0FF0#16, 0x0FF0#16, 0x3FFF#15, 0x0FF0#16),
    (exec (.c0_011101 ⟨false, false, true⟩ ⟨true, true, false⟩) atLimit, 0xBFFF#16, 0x0FF0#16, 0x0000#15, 0x0FF0#16),
    (exec (.c1_001010 ⟨true, true, true⟩ ⟨false, true, true⟩) atLimit, 0x0FF0#16, 0x0FF0#16, 0x3FFF#15, 0x0FF0#16),
    (exec (.c1_001100 ⟨false, true, true⟩ ⟨true, false, false⟩) atLimit, 0xBFFF#16, 0x0FF0#16, 0x0000#15, 0x0FF0#16),
    (exec (.c1_011011 ⟨true, false, true⟩ ⟨false, true, false⟩) atLimit, 0x0FF0#16, 0x0FF0#16, 0x0000#15, 0x0FF0#16),
    (exec (.c1_011101 ⟨false, false, true⟩ ⟨false, false, true⟩) atLimit, 0xBFFF#16, 0x0FF0#16, 0x3FFF#15, 0x0FF0#16),
    (exec (.c0_001011 ⟨true, true, true⟩ ⟨true, true, false⟩) atLimit, 0xF00F#16, 0xF00F#16, 0x3FFF#15, 0xF00F#16),
    (exec (.notD ⟨false, true, true⟩ ⟨false, true, true⟩) atLimit, 0xBFFF#16, 0xF00F#16, 0x0000#15, 0xF00F#16),
    (exec (.c0_011010 ⟨true, false, true⟩ ⟨true, false, false⟩) atLimit, 0xF00F#16, 0x0FF0#16, 0x3FFF#15, 0xF00F#16),
    (exec (.c0_011100 ⟨false, false, true⟩ ⟨false, true, false⟩) atLimit, 0xBFFF#16, 0x0FF0#16, 0x0000#15, 0xF00F#16),
    (exec (.c1_001011 ⟨true, true, true⟩ ⟨false, false, true⟩) atLimit, 0xF00F#16, 0xF00F#16, 0x0000#15, 0xF00F#16),
    (exec (.c1_001101 ⟨false, true, true⟩ ⟨true, true, false⟩) atLimit, 0xBFFF#16, 0xF00F#16, 0x3FFF#15, 0xF00F#16),
    (exec (.c1_011010 ⟨true, false, true⟩ ⟨false, true, true⟩) atLimit, 0xF00F#16, 0x0FF0#16, 0x0000#15, 0xF00F#16),
    (exec (.c1_011100 ⟨false, false, true⟩ ⟨true, false, false⟩) atLimit, 0xBFFF#16, 0x0FF0#16, 0x3FFF#15, 0xF00F#16)] : List (Result × Word × Word × Addr15 × Word)).all (fun v => resultOf v.1 == some v.2) = true := by decide

/-- Each of these instructions meets it and completes: with A = 0xBFFF, D = 0x0FF0, M = 0x00F1. -/
theorem witness_ArithmeticOnD : ([
    (exec (.decD ⟨true, true, true⟩ ⟨true, false, false⟩) atLimit, 0x0FEF#16, 0x0FEF#16, 0x0000#15, 0x0FEF#16),
    (exec (.c1_001110 ⟨false, true, true⟩ ⟨false, true, false⟩) atLimit, 0xBFFF#16, 0x0FEF#16, 0x0000#15, 0x0FEF#16),
    (exec (.negD ⟨true, false, true⟩ ⟨false, false, true⟩) atLimit, 0xF010#16, 0x0FF0#16, 0x0000#15, 0xF010#16),
    (exec (.c1_001111 ⟨false, false, true⟩ ⟨true, true, false⟩) atLimit, 0xBFFF#16, 0x0FF0#16, 0x3FFF#15, 0xF010#16),
    (exec (.c0_011110 ⟨true, true, true⟩ ⟨false, true, true⟩) atLimit, 0xF00E#16, 0xF00E#16, 0x0000#15, 0xF00E#16),
    (exec (.c1_011110 ⟨false, true, true⟩ ⟨true, false, false⟩) atLimit, 0xBFFF#16, 0xF00E#16, 0x3FFF#15, 0xF00E#16),
    (exec (.incD ⟨true, false, true⟩ ⟨false, true, false⟩) atLimit, 0x0FF1#16, 0x0FF0#16, 0x0000#15, 0x0FF1#16),
    (exec (.c1_011111 ⟨false, false, true⟩ ⟨false, false, true⟩) atLimit, 0xBFFF#16, 0x0FF0#16, 0x3FFF#15, 0x0FF1#16)] : List (Result × Word × Word × Addr15 × Word)).all (fun v => resultOf v.1 == some v.2) = true := by decide

/-- Each of these instructions meets it and completes: with A = 0xBFFF, D = 0x0FF0, M = 0x00F1. -/
theorem witness_CopyAndComplementOfSecondOperand : ([
    (exec (.c0_100010 ⟨true, true, true⟩ ⟨true, false, false⟩) atLimit, 0xBFFF#16, 0xBFFF#16, 0x3FFF#15, 0xBFFF#16),
    (exec (.c0_100111 ⟨false, true, true⟩ ⟨false, true, false⟩) atLimit, 0xBFFF#16, 0xBFFF#16, 0x0000#15, 0xBFFF#16),
    (exec (.copyA ⟨true, false, true⟩ ⟨false, false, true⟩) atLimit, 0xBFFF#16, 0x0FF0#16, 0x0000#15, 0xBFFF#16),
    (exec (.c0_110101 ⟨false, false, true⟩ ⟨true, true, false⟩) atLimit, 0xBFFF#16, 0x0FF0#16, 0x3FFF#15, 0xBFFF#16),
    (exec (.c1_100010 ⟨true, true, true⟩ ⟨false, true, true⟩) atLimit, 0x00F1#16, 0x00F1#16, 0x3FFF#15, 0x00F1#16),
    (exec (.c1_100111 ⟨false, true, true⟩ ⟨true, false, false⟩) atLimit, 0xBFFF#16, 0x00F1#16, 0x0000#15, 0x00F1#16),
    (exec (.copyM ⟨true, false, true⟩ ⟨false, true, false⟩) atLimit, 0x00F1#16, 0x0FF0#16, 0x0000#15, 0x00F1#16),
    (exec (.c1_110101 ⟨false, false, true⟩ ⟨false, false, true⟩) atLimit, 0xBFFF#16, 0x0FF0#16, 0x3FFF#15, 0x00F1#16),
    (exec (.c0_100011 ⟨true, true, true⟩ ⟨true, true, false⟩) atLimit, 0x4000#16, 0x4000#16, 0x0000#15, 0x4000#16),
    (exec (.c0_100110 ⟨false, true, true⟩ ⟨false, true, true⟩) atLimit, 0xBFFF#16, 0x4000#16, 0x3FFF#15, 0x4000#16),
    (exec (.notA ⟨true, false, true⟩ ⟨true, false, false⟩) atLimit, 0x4000#16, 0x0FF0#16, 0x0000#15, 0x4000#16),
    (exec (.c0_110100 ⟨false, false, true⟩ ⟨false, true, false⟩) atLimit, 0xBFFF#16, 0x0FF0#16, 0x0000#15, 0x4000#16),
    (exec (.c1_100011 ⟨true, true, true⟩ ⟨false, false, true⟩) atLimit, 0xFF0E#16, 0xFF0E#16, 0x0000#15, 0xFF0E#16),
    (exec (.c1_100110 ⟨false, true, true⟩ ⟨true, true, false⟩) atLimit, 0xBFFF#16, 0xFF0E#16, 0x3FFF#15, 0xFF0E#16),
    (exec (.notM ⟨true, false, true⟩ ⟨false, true, true⟩) atLimit, 0xFF0E#16, 0x0FF0#16, 0x0000#15, 0xFF0E#16),
    (exec (.c1_110100 ⟨false, false, true⟩ ⟨true, false, false⟩) atLimit, 0xBFFF#16, 0x0FF0#16, 0x3FFF#15, 0xFF0E#16)] : List (Result × Word × Word × Addr15 × Word)).all (fun v => resultOf v.1 == some v.2) = true := by decide

/-- Each of these instructions meets it and completes: with A = 0xBFFF, D = 0x0FF0, M = 0x00F1. -/
theorem witness_ArithmeticOnSecondOperand : ([
    (exec (.decA ⟨true, true, true⟩ ⟨true, false, false⟩) atLimit, 0xBFFE#16, 0xBFFE#16, 0x3FFF#15, 0xBFFE#16),
    (exec (.decM ⟨false, true, true⟩ ⟨false, true, false⟩) atLimit, 0xBFFF#16, 0x00F0#16, 0x0000#15, 0x00F0#16),
    (exec (.negA ⟨true, false, true⟩ ⟨false, false, true⟩) atLimit, 0x4001#16, 0x0FF0#16, 0x3FFF#15, 0x4001#16),
    (exec (.negM ⟨false, false, true⟩ ⟨true, true, false⟩) atLimit, 0xBFFF#16, 0x0FF0#16, 0x3FFF#15, 0xFF0F#16),
    (exec (.c0_110110 ⟨true, true, true⟩ ⟨false, true, true⟩) atLimit, 0x3FFF#16, 0x3FFF#16, 0x3FFF#15, 0x3FFF#16),
    (exec (.c1_110110 ⟨false, true, true⟩ ⟨true, false, false⟩) atLimit, 0xBFFF#16, 0xFF0D#16, 0x3FFF#15, 0xFF0D#16),
    (exec (.incA ⟨true, false, true⟩ ⟨false, true, false⟩) atLimit, 0xC000#16, 0x0FF0#16, 0x0000#15, 0xC000#16),
    (exec (.incM ⟨false, false, true⟩ ⟨false, false, true⟩) atLimit, 0xBFFF#16, 0x0FF0#16, 0x3FFF#15, 0x00F2#16)] : List (Result × Word × Word × Addr15 × Word)).all (fun v => resultOf v.1 == some v.2) = true := by decide

/-- Each of these instructions meets it and completes: with A = 0xBFFF, D = 0x0FF0, M = 0x00F1. -/
theorem witness_ConstantZeroForms : ([
    (exec (.c0_001000 ⟨true, true, true⟩ ⟨true, false, false⟩) atLimit, 0x0000#16, 0x0000#16, 0x0000#15, 0x0000#16),
    (exec (.c0_011000 ⟨false, true, true⟩ ⟨false, true, false⟩) atLimit, 0xBFFF#16, 0x0000#16, 0x3FFF#15, 0x0000#16),
    (exec (.c0_100000 ⟨true, false, true⟩ ⟨false, false, true⟩) atLimit, 0x0000#16, 0x0FF0#16, 0x0000#15, 0x0000#16),
    (exec (.c0_100100 ⟨false, false, true⟩ ⟨true, true, false⟩) atLimit, 0xBFFF#16, 0x0FF0#16, 0x3FFF#15, 0x0000#16),
    (exec (.c0_101000 ⟨true, true, true⟩ ⟨false, true, true⟩) atLimit, 0x0000#16, 0x0000#16, 0x3FFF#15, 0x0000#16),
    (exec (.const0 ⟨false, true, true⟩ ⟨true, false, false⟩) atLimit, 0xBFFF#16, 0x0000#16, 0x0000#15, 0x0000#16),
    (exec (.c0_101100 ⟨true, false, true⟩ ⟨false, true, false⟩) atLimit, 0x0000#16, 0x0FF0#16, 0x3FFF#15, 0x0000#16),
    (exec (.c0_101111 ⟨false, false, true⟩ ⟨false, false, true⟩) atLimit, 0xBFFF#16, 0x0FF0#16, 0x0000#15, 0x0000#16),
    (exec (.c0_111000 ⟨true, true, true⟩ ⟨true, true, false⟩) atLimit, 0x0000#16, 0x0000#16, 0x3FFF#15, 0x0000#16),
    (exec (.c0_111011 ⟨false, true, true⟩ ⟨false, true, true⟩) atLimit, 0xBFFF#16, 0x0000#16, 0x3FFF#15, 0x0000#16),
    (exec (.c0_111101 ⟨true, false, true⟩ ⟨true, false, false⟩) atLimit, 0x0000#16, 0x0FF0#16, 0x0000#15, 0x0000#16),
    (exec (.c1_001000 ⟨false, false, true⟩ ⟨false, true, false⟩) atLimit, 0xBFFF#16, 0x0FF0#16, 0x3FFF#15, 0x0000#16),
    (exec (.c1_011000 ⟨true, true, true⟩ ⟨false, false, true⟩) atLimit, 0x0000#16, 0x0000#16, 0x0000#15, 0x0000#16),
    (exec (.c1_100000 ⟨false, true, true⟩ ⟨true, true, false⟩) atLimit, 0xBFFF#16, 0x0000#16, 0x3FFF#15, 0x0000#16),
    (exec (.c1_100100 ⟨true, false, true⟩ ⟨false, true, true⟩) atLimit, 0x0000#16, 0x0FF0#16, 0x3FFF#15, 0x0000#16),
    (exec (.c1_101000 ⟨false, false, true⟩ ⟨true, false, false⟩) atLimit, 0xBFFF#16, 0x0FF0#16, 0x0000#15, 0x0000#16),
    (exec (.c1_101010 ⟨true, true, true⟩ ⟨false, true, false⟩) atLimit, 0x0000#16, 0x0000#16, 0x3FFF#15, 0x0000#16),
    (exec (.c1_101100 ⟨false, true, true⟩ ⟨false, false, true⟩) atLimit, 0xBFFF#16, 0x0000#16, 0x0000#15, 0x0000#16),
    (exec (.c1_101111 ⟨true, false, true⟩ ⟨true, true, false⟩) atLimit, 0x0000#16, 0x0FF0#16, 0x3FFF#15, 0x0000#16),
    (exec (.c1_111000 ⟨false, false, true⟩ ⟨false, true, true⟩) atLimit, 0xBFFF#16, 0x0FF0#16, 0x3FFF#15, 0x0000#16),
    (exec (.c1_111011 ⟨true, true, true⟩ ⟨true, false, false⟩) atLimit, 0x0000#16, 0x0000#16, 0x0000#15, 0x0000#16),
    (exec (.c1_111101 ⟨false, true, true⟩ ⟨false, true, false⟩) atLimit, 0xBFFF#16, 0x0000#16, 0x3FFF#15, 0x0000#16)] : List (Result × Word × Word × Addr15 × Word)).all (fun v => resultOf v.1 == some v.2) = true := by decide

/-- Each of these instructions meets it and completes: with A = 0xBFFF, D = 0x0FF0, M = 0x00F1. -/
theorem witness_ConstantMinusOneForms : ([
    (exec (.c0_001001 ⟨true, true, true⟩ ⟨true, false, false⟩) atLimit, 0xFFFF#16, 0xFFFF#16, 0x3FFF#15, 0xFFFF#16),
    (exec (.c0_011001 ⟨false, true, true⟩ ⟨false, true, false⟩) atLimit, 0xBFFF#16, 0xFFFF#16, 0x0000#15, 0xFFFF#16),
    (exec (.c0_100001 ⟨true, false, true⟩ ⟨false, false, true⟩) atLimit, 0xFFFF#16, 0x0FF0#16, 0x0000#15, 0xFFFF#16),
    (exec (.c0_100101 ⟨false, false, true⟩ ⟨true, true, false⟩) atLimit, 0xBFFF#16, 0x0FF0#16, 0x3FFF#15, 0xFFFF#16),
    (exec (.c0_101001 ⟨true, true, true⟩ ⟨false, true, true⟩) atLimit, 0xFFFF#16, 0xFFFF#16, 0x0000#15, 0xFFFF#16),
    (exec (.c0_101011 ⟨false, true, true⟩ ⟨true, false, false⟩) atLimit, 0xBFFF#16, 0xFFFF#16, 0x3FFF#15, 0xFFFF#16),
    (exec (.c0_101101 ⟨true, false, true⟩ ⟨false, true, false⟩) atLimit, 0xFFFF#16, 0x0FF0#16, 0x0000#15, 0xFFFF#16),
    (exec (.c0_101110 ⟨false, false, true⟩ ⟨false, false, true⟩) atLimit, 0xBFFF#16, 0x0FF0#16, 0x0000#15, 0xFFFF#16),
    (exec (.c0_111001 ⟨true, true, true⟩ ⟨true, true, false⟩) atLimit, 0xFFFF#16, 0xFFFF#16, 0x3FFF#15, 0xFFFF#16),
    (exec (.constMinus1 ⟨false, true, true⟩ ⟨false, true, true⟩) atLimit, 0xBFFF#16, 0xFFFF#16, 0x0000#15, 0xFFFF#16),
    (exec (.c0_111100 ⟨true, false, true⟩ ⟨true, false, false⟩) atLimit, 0xFFFF#16, 0x0FF0#16, 0x3FFF#15, 0xFFFF#16),
    (exec (.c1_001001 ⟨false, false, true⟩ ⟨false, true, false⟩) atLimit, 0xBFFF#16, 0x0FF0#16, 0x0000#15, 0xFFFF#16),
    (exec (.c1_011001 ⟨true, true, true⟩ ⟨false, false, true⟩) atLimit, 0xFFFF#16, 0xFFFF#16, 0x0000#15, 0xFFFF#16),
    (exec (.c1_100001 ⟨false, true, true⟩ ⟨true, true, false⟩) atLimit, 0xBFFF#16, 0xFFFF#16, 0x3FFF#15, 0xFFFF#16),
    (exec (.c1_100101 ⟨true, false, true⟩ ⟨false, true, true⟩) atLimit, 0xFFFF#16, 0x0FF0#16, 0x0000#15, 0xFFFF#16),
    (exec (.c1_101001 ⟨false, false, true⟩ ⟨true, false, false⟩) atLimit, 0xBFFF#16, 0x0FF0#16, 0x3FFF#15, 0xFFFF#16),
    (exec (.c1_101011 ⟨true, true, true⟩ ⟨false, true, false⟩) atLimit, 0xFFFF#16, 0xFFFF#16, 0x0000#15, 0xFFFF#16),
    (exec (.c1_101101 ⟨false, true, true⟩ ⟨false, false, true⟩) atLimit, 0xBFFF#16, 0xFFFF#16, 0x0000#15, 0xFFFF#16),
    (exec (.c1_101110 ⟨true, false, true⟩ ⟨true, true, false⟩) atLimit, 0xFFFF#16, 0x0FF0#16, 0x3FFF#15, 0xFFFF#16),
    (exec (.c1_111001 ⟨false, false, true⟩ ⟨false, true, true⟩) atLimit, 0xBFFF#16, 0x0FF0#16, 0x0000#15, 0xFFFF#16),
    (exec (.c1_111010 ⟨true, true, true⟩ ⟨true, false, false⟩) atLimit, 0xFFFF#16, 0xFFFF#16, 0x3FFF#15, 0xFFFF#16),
    (exec (.c1_111100 ⟨false, true, true⟩ ⟨false, true, false⟩) atLimit, 0xBFFF#16, 0xFFFF#16, 0x0000#15, 0xFFFF#16)] : List (Result × Word × Word × Addr15 × Word)).all (fun v => resultOf v.1 == some v.2) = true := by decide

/-- Each of these instructions meets it and completes: with A = 0xBFFF, D = 0x0FF0, M = 0x00F1. -/
theorem witness_ConstantOneAndMinusTwo : ([
    (exec (.const1 ⟨true, true, true⟩ ⟨true, false, false⟩) atLimit, 0x0001#16, 0x0001#16, 0x0000#15, 0x0001#16),
    (exec (.c1_111111 ⟨false, true, true⟩ ⟨false, true, false⟩) atLimit, 0xBFFF#16, 0x0001#16, 0x0000#15, 0x0001#16),
    (exec (.c0_111110 ⟨true, false, true⟩ ⟨false, false, true⟩) atLimit, 0xFFFE#16, 0x0FF0#16, 0x0000#15, 0xFFFE#16),
    (exec (.c1_111110 ⟨false, false, true⟩ ⟨true, true, false⟩) atLimit, 0xBFFF#16, 0x0FF0#16, 0x3FFF#15, 0xFFFE#16)] : List (Result × Word × Word × Addr15 × Word)).all (fun v => resultOf v.1 == some v.2) = true := by decide

/-- Steps that write each register, and one that writes none of them. -/
theorem witness_AWrittenByAInstructionsAndBitFiveAlone :
    (∃ t, step atLimit = .next t) ∧ (∃ t, step (vec 0x7FFF#16 0#16 0xFFFF#16 0#16 0#15 false) = .next t) ∧
    ∃ t, step (vec 0xEA80#16 0#16 0x4000#16 0#16 0#15 false) = .next t := ⟨⟨_, rfl⟩, ⟨_, rfl⟩, _, rfl⟩

theorem witness_DWrittenByBitFourAlone :
    (∃ t, step (vec 0xE391#16 0#16 0x0040#16 2#16 5#15 false) = .next t) ∧
    ∃ t, step (vec 0x0010#16 0#16 0x0040#16 2#16 5#15 false) = .next t := ⟨⟨_, rfl⟩, _, rfl⟩

/-- Reset, a taken jump, and the wrap at the top address. -/
theorem witness_PcTakesOneOfThreeValues :
    (∃ t, step (vec 0xEA87#16 0#16 0x8012#16 0#16 0x7FFF#15 true) = .next t) ∧
    (∃ t, step (vec 0xEA87#16 0#16 0x8012#16 0#16 0x7FFF#15 false) = .next t) ∧
    ∃ t, step (vec 0xEA80#16 0#16 0x8012#16 0#16 0x7FFF#15 false) = .next t := ⟨⟨_, rfl⟩, ⟨_, rfl⟩, _, rfl⟩

/-- A step that stores at the last word, and one that stores nothing. -/
theorem witness_OnlyTheWordAtAIsWritten :
    ((∃ t, step atLimit = .next t) ∧ (fetchWord atLimit).getLsbD 15 = true ∧ (fetchWord atLimit).getLsbD 3 = true) ∧
    ∃ t, step (vec 0x0008#16 0#16 0x3FFF#16 0#16 0#15 false) = .next t := ⟨⟨⟨_, rfl⟩, rfl, rfl⟩, _, rfl⟩

theorem witness_NoStepChangesTheParameters : ∃ t, step atLimit = .next t ∧ atLimit.resets = [false] := ⟨_, rfl, rfl⟩

theorem witness_ResetDominatesTheProgramCounter :
    resetNow (vec 0xE327#16 0#16 0x0040#16 9#16 5#15 true) = true ∧
    ∃ t, step (vec 0xE327#16 0#16 0x0040#16 9#16 5#15 true) = .next t := ⟨rfl, _, rfl⟩

theorem witness_StepKeepsTheStateWellFormed : atLimit.wf = true ∧ ∃ t, step atLimit = .next t ∧ t.mem ≠ atLimit.mem :=
  ⟨by decide, _, rfl, by decide⟩

/-- Two canonical memories of one word each, equal in the width-0 memory's one word. -/
theorem witness_EqualWordsMeanEqualMemories :
    Memory.wf [(1, 7#8)] = true ∧ Memory.within [(1, 7#8)] 0 = true ∧
    ∀ q : Addr15, q.toNat < 2 ^ (0 : Fin 16).val → Memory.readWord [(1, 7#8)] q = Memory.readWord [(1, 7#8)] q :=
  ⟨by decide, by decide, fun _ _ => rfl⟩

theorem witness_StoringTheSameWordChangesNothing : Memory.wf [(65534, 7#8)] = true ∧
    Memory.readWord [(65534, 7#8)] 0x7FFF#15 = 7#16 := by decide

/-- Parked at 6, and parked at the top address, where the second word stands at 0. -/
theorem witness_ParkedMachineRepeatsWithPeriodTwo :
    Parked 6#15 { State.reset with pc := 6#15, imem := Memory.writeWord (Memory.writeWord [] 6#15 6#16) 7#15 0xEA87#16 } ∧
    Parked 0x7FFF#15 { State.reset with
      pc := 0x7FFF#15, resets := [false]
      imem := Memory.writeWord (Memory.writeWord [] 0x7FFF#15 0x7FFF#16) 0#15 0x8007#16 } := by
  unfold Parked; decide

theorem witness_FlagsDescribeTheResult : zr 0x0000#16 = true ∧ ng 0x8000#16 = true ∧ zr 0x7FFF#16 = false := by decide

theorem witness_ControlUnitEquations : (0x7FFF#16).getLsbD 15 = false := by decide

theorem witness_AInstructionControlOutputs : (0x1038#16).getLsbD 15 = false := by decide

theorem witness_MemoryTreeIsAFlatArray :
    ∃ (load : Bool) (b : Block [3, 3]), load = false ∧ blockOut [3, 3] b 1#6 = 0x0101#16 :=
  ⟨false, block64, rfl, by decide⟩

/-- A = 1 in an A-instruction; a = 0 in a C-instruction. -/
theorem witness_MemoryInputMattersOnlyWhenSelected :
    (0x7FFF#16).getLsbD 15 = false ∧ (0xE7D1#16).getLsbD 15 = true ∧ (0xE7D1#16).getLsbD 12 = false := by decide

theorem witness_InstructionsAreWhatTheDatapathDoes : (∃ t, exec (decode 0xFFF8#16) atLimit = .next t) ∧
    ∃ t, exec (decode 0x7FFF#16) beyond = .next t := ⟨⟨_, rfl⟩, _, rfl⟩

/-- Width 1: two words, one not zero, in the tree and in the list; the step faults at A = 2 and not at A = 1. -/
theorem witness_WiredMachineSimulatesTheMachine :
    Agrees [1] ⟨⟨1#16, 5#16, 0#15⟩, blockOfWords [1] fun a => if a.toNat = 1 then 9#16 else 0#16⟩
      { vec 0xF088#16 9#16 1#16 5#16 0#15 false with memW := 1 } ∧
    Agrees [1] ⟨⟨2#16, 5#16, 0#15⟩, blockOfWords [1] fun _ => 0#16⟩
      { vec 0xF088#16 0#16 2#16 5#16 0#15 false with memW := 1 } := by
  unfold Agrees; decide

end Sys2Proof.Tests
end

/-! The words of a cycle: the fields of the fetched word, its ALU result, the sign of a result. -/
section
namespace Sys2Proof.Machine

/-- The destination field is bits 5, 4, 3 (R83). -/
@[simp] theorem destOfBits_extract (w : Word) :
    destOfBits (w.extractLsb' 3 3) = ⟨w.getLsbD 5, w.getLsbD 4, w.getLsbD 3⟩ := by
  simp [destOfBits]

/-- The jump field is bits 2, 1, 0 (R83). -/
@[simp] theorem jumpOfBits_extract (w : Word) :
    jumpOfBits (w.extractLsb' 0 3) = ⟨w.getLsbD 2, w.getLsbD 1, w.getLsbD 0⟩ := by
  simp [jumpOfBits]

/-- An A-instruction's literal with a zero bit 15 is the instruction word itself (R284). -/
theorem zext16_extract_of_bit15_clear {w : Word} (h : w.getLsbD 15 = false) :
    zext16 (w.extractLsb' 0 15) = w := by
  refine BitVec.eq_of_getLsbD_eq fun i hi => ?_
  rcases Nat.lt_succ_iff_lt_or_eq.1 hi with hlow | rfl
  · simp [zext16, hi, hlow]
  · rw [h]; simp [zext16]

/-- `low15` drops bit 15 (R23). -/
@[simp] theorem low15_flip_bit15 (v : Word) : low15 (v ^^^ 0x8000#16) = low15 v := by
  simp [low15, BitVec.setWidth_xor]

/-- The next address is counted modulo `2 ^ 15` (R29). -/
theorem add_one_eq_ofNat_mod (pc : Addr15) : pc + 1#15 = BitVec.ofNat 15 ((pc.toNat + 1) % 2 ^ 15) :=
  BitVec.eq_of_toNat_eq (by simp [BitVec.toNat_add])

/-- A result is zero exactly if `zr` is set (R122). -/
theorem sint_eq_zero_iff (out : Word) : sint out = 0 ↔ zr out = true := by
  have hzero : out.toInt = (0#16).toInt ↔ out = 0#16 := BitVec.toInt_inj
  simpa [sint, zr] using hzero

/-- A result is negative exactly if `ng` is set (R122). -/
theorem sint_neg_iff (out : Word) : sint out < 0 ↔ ng out = true := by
  have hmsb : ng out = decide (sint out < 0) := by
    rw [ng, sint, ← BitVec.msb_eq_toInt, BitVec.msb_eq_getLsbD_last]
  simp [hmsb]

/-- The jump decision on the flags is the jump code's condition on the signed result: by the result's sign,
which fixes both flags (R263 to R270, R272). -/
theorem jumpTaken_eq_jumpCondition (j : Jump) (out : Word) : jumpTaken j out = jumpCondition j out := by
  have hz := sint_eq_zero_iff out
  have hn := sint_neg_iff out
  have hword : out = 0#16 ↔ zr out = true := by simp [zr]
  unfold jumpTaken jumpDecision jumpCondition
  rcases lt_trichotomy (sint out) 0 with neg | zero | pos
  · have hng : ng out = true := hn.1 neg
    have hzr : zr out = false := Bool.eq_false_iff.2 fun e => neg.ne (hz.2 e)
    split <;> simp [*, neg.le, neg.not_gt]
  · have hng : ng out = false := Bool.eq_false_iff.2 fun e => (hn.2 e).ne zero
    have hzr : zr out = true := hz.1 zero
    split <;> simp [*]
  · have hng : ng out = false := Bool.eq_false_iff.2 fun e => pos.not_gt (hn.2 e)
    have hzr : zr out = false := Bool.eq_false_iff.2 fun e => pos.ne' (hz.2 e)
    split <;> simp [*, pos.le, pos.not_gt]

end Sys2Proof.Machine
end

/-! What a step can do, said once: the fetched word is an A-instruction, or a C-instruction that commits, or one
that faults. -/
section
namespace Sys2Proof.Machine

/-- The ALU's result in this cycle, of D and the operand that bit 12 of the fetched word selects (R286). -/
def fetchedOut (s : State) : Word :=
  alu s.d (if fetchedBit s 12 then s.mem.readWord (addressM s) else s.a) ((fetchWord s).extractLsb' 6 6)

/-- The clock edge of a cycle that fetches an A-instruction (R284). -/
def edgeA (s : State) : State := writeLiteral ((fetchWord s).extractLsb' 0 15) s

/-- The clock edge of a cycle that fetches a C-instruction and does not fault (R286). -/
def edgeC (s : State) : State :=
  writeBack ⟨fetchedBit s 5, fetchedBit s 4, fetchedBit s 3⟩ ⟨fetchedBit s 2, fetchedBit s 1, fetchedBit s 0⟩
    (fetchedOut s) s

/-- The operands and the ALU code of the fetched word give the cycle's result. -/
theorem alu_fetched_operands (s : State) :
    alu (operandX s) (operandY (if (fetchWord s).getLsbD 12 then .memM else .regA) s)
      ((fetchWord s).extractLsb' 6 6) = fetchedOut s := by
  unfold fetchedOut fetchedBit
  cases (fetchWord s).getLsbD 12 <;> rfl

/-- Memory use by operand and destination is memory use by the bits of the word (R305). -/
theorem usesM_fetched {s : State} (hC : fetchedBit s 15 = true) :
    usesM (if (fetchWord s).getLsbD 12 then .memM else .regA)
      ⟨(fetchWord s).getLsbD 5, (fetchWord s).getLsbD 4, (fetchWord s).getLsbD 3⟩ = fetchedUsesM s := by
  unfold fetchedUsesM
  rw [hC]
  unfold fetchedBit
  cases (fetchWord s).getLsbD 12 <;> rfl

/-- A fetched A-instruction always completes (R284, R307). -/
theorem step_of_A {s : State} (hA : fetchedBit s 15 = false) : step s = .next (endCycle (edgeA s)) := by
  rw [step, exec_decode_A hA, endCycleOf_next, edgeA]

/-- A fetched C-instruction whose memory use, if any, is backed completes (R286, R306). -/
theorem step_of_C {s : State} (hC : fetchedBit s 15 = true) (hb : fetchedUsesM s = true → backed s = true) :
    step s = .next (endCycle (edgeC s)) := by
  rw [← usesM_fetched hC] at hb
  rw [step, exec_decode_C hC, destOfBits_extract, jumpOfBits_extract, computeC_next _ _ hb,
    alu_fetched_operands, endCycleOf_next]
  rfl

/-- Memory use without a word at the address faults, before anything commits (R306). -/
theorem step_of_unbacked {s : State} (hu : fetchedUsesM s = true) (hb : backed s = false) :
    step s = .fault (.outOfRange (addressM s)) := by
  have hC : fetchedBit s 15 = true := (Bool.and_eq_true_iff.1 hu).1
  rw [← usesM_fetched hC] at hu
  rw [step, exec_decode_C hC, destOfBits_extract, jumpOfBits_extract, computeC_fault _ _ hu hb, endCycleOf_fault]

/-- The three things a cycle can do. -/
theorem step_cases (s : State) :
    (fetchedBit s 15 = false ∧ step s = .next (endCycle (edgeA s))) ∨
    (fetchedBit s 15 = true ∧ (fetchedUsesM s = true → backed s = true) ∧
      step s = .next (endCycle (edgeC s))) ∨
    (fetchedUsesM s = true ∧ backed s = false ∧ step s = .fault (.outOfRange (addressM s))) := by
  cases hbit : fetchedBit s 15 with
  | false => exact .inl ⟨rfl, step_of_A hbit⟩
  | true =>
    by_cases hb : fetchedUsesM s = true → backed s = true
    · exact .inr (.inl ⟨rfl, hb, step_of_C hbit hb⟩)
    · obtain ⟨hu, hunbacked⟩ := Classical.not_imp.1 hb
      have hf : backed s = false := Bool.eq_false_iff.2 hunbacked
      exact .inr (.inr ⟨hu, hf, step_of_unbacked hu hf⟩)

/-- A cycle that answers a next state took the edge of an A-instruction or of a C-instruction. -/
theorem step_next_cases {s t : State} (h : step s = .next t) :
    (fetchedBit s 15 = false ∧ t = endCycle (edgeA s)) ∨ (fetchedBit s 15 = true ∧ t = endCycle (edgeC s)) := by
  rcases step_cases s with ⟨hA, hs⟩ | ⟨hC, -, hs⟩ | ⟨-, -, hs⟩
  · exact .inl ⟨hA, Host.Outcome.next.inj (h.symm.trans hs)⟩
  · exact .inr ⟨hC, Host.Outcome.next.inj (h.symm.trans hs)⟩
  · cases h.symm.trans hs

@[simp] theorem edgeA_a {s : State} (hA : fetchedBit s 15 = false) : (edgeA s).a = fetchWord s :=
  zext16_extract_of_bit15_clear hA

@[simp] theorem edgeA_d (s : State) : (edgeA s).d = s.d := rfl

@[simp] theorem edgeA_pc (s : State) : (edgeA s).pc = if resetNow s then 0#15 else s.pc + 1#15 := by
  simp [edgeA, pcNext]

@[simp] theorem edgeA_mem (s : State) : (edgeA s).mem = s.mem := rfl

@[simp] theorem edgeC_a (s : State) : (edgeC s).a = if fetchedBit s 5 then fetchedOut s else s.a := rfl

@[simp] theorem edgeC_d (s : State) : (edgeC s).d = if fetchedBit s 4 then fetchedOut s else s.d := rfl

@[simp] theorem edgeC_pc (s : State) :
    (edgeC s).pc = if resetNow s then 0#15
      else if jumpCondition ⟨fetchedBit s 2, fetchedBit s 1, fetchedBit s 0⟩ (fetchedOut s) then low15 s.a
      else s.pc + 1#15 := by
  simp [edgeC, pcNext, jumpTaken_eq_jumpCondition]

@[simp] theorem edgeC_mem (s : State) :
    (edgeC s).mem = if fetchedBit s 3 then s.mem.writeWord (addressM s) (fetchedOut s) else s.mem := rfl

end Sys2Proof.Machine
end

/-! Canonical memories: what they list, when two are equal, and one for every content. -/
section
namespace Sys2Proof.Machine

/-- A canonical memory's cells stand at strictly rising addresses (log entry 7). -/
theorem pairwise_lt_of_wf {m : Memory} (h : m.wf = true) : m.Pairwise fun c e => c.1 < e.1 := by
  induction m with
  | nil => exact .nil
  | cons c rest ih =>
    obtain ⟨-, habove, hrest⟩ := (wf_cons c rest).1 h
    exact .cons habove (ih hrest)

/-- A canonical memory lists exactly the bytes that do not read as an unlisted one. -/
theorem mem_iff_readByte {m : Memory} (h : m.wf = true) (k : Nat) (v : Byte) :
    (k, v) ∈ m ↔ v ≠ Config.unlistedByte ∧ m.readByte k = v := by
  induction m with
  | nil => simp [Memory.readByte, eq_comm]
  | cons c rest ih =>
    obtain ⟨k', v'⟩ := c
    obtain ⟨hlisted, habove, hrest⟩ := (wf_cons _ rest).1 h
    by_cases hk : k = k'
    · subst hk
      have hnot : (k, v) ∉ rest := fun he => Nat.lt_irrefl _ (habove (k, v) he)
      simp only [List.mem_cons, hnot, or_false, Prod.mk.injEq, true_and, Memory.readByte, if_true]
      exact ⟨fun e => ⟨e ▸ hlisted, e.symm⟩, fun e => e.2.symm⟩
    · simp [hk, ih hrest, Memory.readByte]

/-- Canonical memories that read the same at every byte are the same list. -/
theorem eq_of_readByte_eq {m n : Memory} (hm : m.wf = true) (hn : n.wf = true)
    (h : ∀ k, m.readByte k = n.readByte k) : m = n :=
  (pairwise_lt_of_wf hm).eq_of_mem_iff (pairwise_lt_of_wf hn) fun c => by
    rw [mem_iff_readByte hm c.1 c.2, mem_iff_readByte hn c.1 c.2, h c.1]

/-- No byte is listed outside the bounds. -/
theorem readByte_of_within {m : Memory} {w k : Nat} (h : m.within w = true) (hk : 2 * 2 ^ w ≤ k) :
    m.readByte k = Config.unlistedByte := by
  have hbound : ∀ e ∈ m, e.1 < 2 * 2 ^ w := by simpa [Memory.within] using h
  exact readByte_of_not_listed fun e he => by have := hbound e he; omega

theorem readWord_low (m : Memory) (q : Addr15) : (m.readWord q).extractLsb' 0 8 = m.readByte (2 * q.toNat) := by
  rw [Memory.readWord, BitVec.extractLsb'_append_eq_of_add_le (by decide), BitVec.extractLsb'_eq_self]

theorem readWord_high (m : Memory) (q : Addr15) :
    (m.readWord q).extractLsb' 8 8 = m.readByte (2 * q.toNat + 1) := by
  rw [Memory.readWord, BitVec.extractLsb'_append_eq_of_le (by decide)]
  exact BitVec.extractLsb'_eq_self

/-- Equal words have equal bytes. -/
theorem readByte_eq_of_readWord_eq {m n : Memory} {q : Addr15} {k : Nat} (h : m.readWord q = n.readWord q)
    (hk : k / 2 = q.toNat) : m.readByte k = n.readByte k := by
  rcases Nat.mod_two_eq_zero_or_one k with even | odd
  · rw [show k = 2 * q.toNat by omega, ← readWord_low, ← readWord_low, h]
  · rw [show k = 2 * q.toNat + 1 by omega, ← readWord_high, ← readWord_high, h]

/-- The data memory is never larger than the address space (R302). -/
theorem two_pow_memW_le (w : Fin 16) : 2 ^ w.val ≤ 2 ^ 15 :=
  Nat.pow_le_pow_right (by decide) (by omega)

/-- The memory that holds the given content at the addresses below `n`. -/
def memoryOf (content : Addr15 → Word) : Nat → Memory
  | 0 => []
  | n + 1 => (memoryOf content n).writeWord (BitVec.ofNat 15 n) (content (BitVec.ofNat 15 n))

theorem wf_memoryOf (content : Addr15 → Word) (n : Nat) : (memoryOf content n).wf = true := by
  induction n with
  | zero => rfl
  | succ n ih => exact wf_writeWord _ _ ih

theorem within_memoryOf (content : Addr15 → Word) {w n : Nat} (h : n ≤ 2 ^ w) :
    (memoryOf content n).within w = true := by
  induction n with
  | zero => rfl
  | succ n ih =>
    have haddr : (BitVec.ofNat 15 n).toNat < 2 ^ w := by
      rw [BitVec.toNat_ofNat]
      exact Nat.lt_of_le_of_lt (Nat.mod_le _ _) h
    exact within_writeWord _ haddr (ih (Nat.le_of_succ_le h))

theorem readWord_memoryOf (content : Addr15 → Word) {n : Nat} (hn : n ≤ 2 ^ 15) {q : Addr15}
    (hq : q.toNat < n) : (memoryOf content n).readWord q = content q := by
  induction n with
  | zero => exact absurd hq (Nat.not_lt_zero _)
  | succ n ih =>
    rw [memoryOf, readWord_writeWord]
    split
    · next heq => rw [heq]
    · next hne =>
      have hqn : q.toNat ≠ n := fun e => hne (by rw [← e, BitVec.ofNat_toNat, BitVec.setWidth_eq])
      exact ih (Nat.le_of_succ_le hn) (by omega)

/-- The launch state of the given registers, width and contents, both stores written out word by word (R308). -/
def launchOf (a d : Word) (memW : Fin 16) (data program : Addr15 → Word) : State where
  a := a
  d := d
  pc := 0#15
  mem := memoryOf data (2 ^ memW.val)
  imem := memoryOf program (2 ^ 15)
  memW := memW
  resets := []

theorem launch_launchOf (a d : Word) (memW : Fin 16) (data program : Addr15 → Word) :
    Launch (launchOf a d memW data program) := by
  refine ⟨?_, rfl, rfl⟩
  simp only [State.wf, launchOf, wf_memoryOf, within_memoryOf _ (Nat.le_refl _), Bool.and_self]

end Sys2Proof.Machine
end

/-! The statements on the state (spec/10_state.md). -/
section
namespace Sys2Proof.Machine

/-- Settles O22, by the two edges a completed step can take. -/
theorem aWrittenByAInstructionsAndBitFiveAlone : Obligations.AWrittenByAInstructionsAndBitFiveAlone := by
  intro s t h
  change t.a = if fetchedBit s 15 = false then fetchWord s else if fetchedBit s 5 then fetchedOut s else s.a
  rcases step_next_cases h with ⟨hA, rfl⟩ | ⟨hC, rfl⟩
  · rw [if_pos hA, endCycle_a, edgeA_a hA]
  · rw [if_neg (by simp [hC]), endCycle_a, edgeC_a]

/-- Settles O23, by the two edges a completed step can take. -/
theorem dWrittenByBitFourAlone : Obligations.DWrittenByBitFourAlone := by
  intro s t h
  change t.d = if fetchedBit s 15 && fetchedBit s 4 then fetchedOut s else s.d
  rcases step_next_cases h with ⟨hA, rfl⟩ | ⟨hC, rfl⟩
  · simp [hA]
  · simp [hC]

/-- Settles O24, by the two edges a completed step can take; an A-instruction never jumps. -/
theorem pcTakesOneOfThreeValues : Obligations.PcTakesOneOfThreeValues := by
  intro s t h
  change t.pc = if resetNow s then 0#15
    else if fetchedBit s 15 && jumpCondition ⟨fetchedBit s 2, fetchedBit s 1, fetchedBit s 0⟩ (fetchedOut s)
      then low15 s.a
    else BitVec.ofNat 15 ((s.pc.toNat + 1) % 2 ^ 15)
  rw [← add_one_eq_ofNat_mod]
  rcases step_next_cases h with ⟨hA, rfl⟩ | ⟨hC, rfl⟩
  · simp [hA]
  · simp [hC]

/-- Settles O28: which of the three things a cycle does, and every field of its edge but `pc`, do not look at
the queue of `reset` levels. -/
theorem resetChangesNothingButThePc : Obligations.ResetChangesNothingButThePc := by
  intro s r q
  rcases step_cases { s with resets := r } with ⟨hA, hs⟩ | ⟨hC, hb, hs⟩ | ⟨hu, hb, hs⟩
  · exact .inl ⟨_, _, hs, step_of_A hA, rfl, rfl, rfl, rfl, rfl⟩
  · exact .inl ⟨_, _, hs, step_of_C hC hb, rfl, rfl, rfl, rfl, rfl⟩
  · exact .inr ⟨_, hs, step_of_unbacked hu hb⟩

/-- Settles O31: by the launch state that writes both contents out word by word. -/
theorem everyContentHasALaunchState : Obligations.EveryContentHasALaunchState := by
  intro a d memW data program
  exact ⟨launchOf a d memW data program, launch_launchOf .., rfl, rfl, rfl,
    fun p => readWord_memoryOf program (Nat.le_refl _) p.isLt,
    fun q hq => readWord_memoryOf data (two_pow_memW_le memW) hq⟩

/-- Settles O32: the bytes agree inside the bounds by the words, outside because none is listed. -/
theorem equalWordsMeanEqualMemories : Obligations.EqualWordsMeanEqualMemories := by
  intro w m n hm hn hmw hnw hwords
  refine eq_of_readByte_eq hm hn fun k => ?_
  rcases Nat.lt_or_ge k (2 * 2 ^ w.val) with inside | outside
  · have hw := two_pow_memW_le w
    have hq : (BitVec.ofNat 15 (k / 2)).toNat = k / 2 := by
      rw [BitVec.toNat_ofNat, Nat.mod_eq_of_lt (by omega)]
    exact readByte_eq_of_readWord_eq (hwords _ (by omega)) hq.symm
  · rw [readByte_of_within hmw outside, readByte_of_within hnw outside]

/-- Settles O30: both stores are empty, so they are canonical and within bounds. -/
theorem resetStateIsALaunchState : Obligations.ResetStateIsALaunchState :=
  ⟨rfl, rfl, rfl⟩

/-- Settles O51: both addresses are `low15` of A. -/
theorem bitFifteenOfAIsNoPartOfAnAddress : Obligations.BitFifteenOfAIsNoPartOfAnAddress := by
  intro s load reset pc
  constructor
  · exact low15_flip_bit15 s.a
  · rw [pcNext, pcNext, low15_flip_bit15]

end Sys2Proof.Machine
end

/-! The statements on the memory (spec/20_memory.md). -/
section
namespace Sys2Proof.Machine

/-- Settles O25, by the two edges a completed step can take; only a C-instruction with bit 3 set writes a word. -/
theorem onlyTheWordAtAIsWritten : Obligations.OnlyTheWordAtAIsWritten := by
  intro s t h
  change if fetchedBit s 15 = true ∧ fetchedBit s 3 = true then
      t.mem.readWord (addressM s) = fetchedOut s ∧
        ∀ k, k ≠ 2 * (addressM s).toNat → k ≠ 2 * (addressM s).toNat + 1 → t.mem.readByte k = s.mem.readByte k
    else t.mem = s.mem
  rcases step_next_cases h with ⟨hA, rfl⟩ | ⟨hC, rfl⟩
  · rw [if_neg (by simp [hA]), endCycle_mem, edgeA_mem]
  · rw [endCycle_mem, edgeC_mem]
    cases hM : fetchedBit s 3 with
    | false => simp
    | true =>
      rw [if_pos ⟨hC, rfl⟩, if_pos rfl]
      exact ⟨by rw [readWord_writeWord, if_pos rfl], readByte_writeWord_of_ne s.mem (addressM s) (fetchedOut s)⟩

/-- Settles O33: both memories are canonical and read the same at every byte, inside the word written because
the words are equal, outside because it is not written. -/
theorem storingTheSameWordChangesNothing : Obligations.StoringTheSameWordChangesNothing := by
  intro m q hm
  refine eq_of_readByte_eq (wf_writeWord q _ hm) hm fun k => ?_
  by_cases inside : k / 2 = q.toNat
  · have hword : (m.writeWord q (m.readWord q)).readWord q = m.readWord q := by rw [readWord_writeWord, if_pos rfl]
    exact readByte_eq_of_readWord_eq hword inside
  · exact readByte_writeWord_of_ne m q _ k (by omega) (by omega)

end Sys2Proof.Machine
end

/-! The decoder and the encoder: a C-instruction, as a term and as a word, is its bits `{a, c}` and its two fields;
an A-instruction is its literal. -/
section
namespace Sys2Proof

/-- The C-instruction of the bits `{a, c}`, `a` the most significant (R83). -/
def instrOfComp (comp : BitVec 7) : Dest → Jump → Instr :=
  decodeComp (comp.getLsbD 6) (comp.getLsbD 5) (comp.getLsbD 4) (comp.getLsbD 3) (comp.getLsbD 2)
    (comp.getLsbD 1) (comp.getLsbD 0)

@[simp] theorem bits_destOfBits : ∀ b : BitVec 3, (destOfBits b).bits = b := by decide

@[simp] theorem bits_jumpOfBits : ∀ b : BitVec 3, (jumpOfBits b).bits = b := by decide

@[simp] theorem destOfBits_bits (d : Dest) : destOfBits d.bits = d := by
  obtain ⟨d1, d2, d3⟩ := d
  cases d1 <;> cases d2 <;> cases d3 <;> rfl

@[simp] theorem jumpOfBits_bits (j : Jump) : jumpOfBits j.bits = j := by
  obtain ⟨j1, j2, j3⟩ := j
  cases j1 <;> cases j2 <;> cases j3 <;> rfl

/-- A word with bit 15 clear is an A-instruction (R81). -/
theorem decode_of_A {w : Word} (hA : w.getLsbD 15 = false) : decode w = .atValue (w.extractLsb' 0 15) := by
  rw [decode, hA]
  rfl

/-- A word with bit 15 set is the C-instruction of its bits 12 to 6, 5 to 3 and 2 to 0 (R82, R83). -/
theorem decode_of_C {w : Word} (hC : w.getLsbD 15 = true) :
    decode w = instrOfComp (w.extractLsb' 6 7) (destOfBits (w.extractLsb' 3 3))
      (jumpOfBits (w.extractLsb' 0 3)) := by
  rw [decode, if_pos hC, instrOfComp]
  simp

/-- Decoding an A-instruction's word gives it back: the word is `0` and the literal (R81). -/
theorem decode_encodeA (value : Addr15) : decode (encodeA value) = .atValue value := by
  have hA : (encodeA value).getLsbD 15 = false := by
    rw [encodeA, BitVec.getLsbD_append]
    rfl
  rw [decode_of_A hA, encodeA, BitVec.extractLsb'_append_eq_right]

/-- Decoding a C-instruction's word gives it back: each field stands at its own bits (R83). -/
theorem decode_encodeC (comp : BitVec 7) (dest : Dest) (jump : Jump) :
    decode (encodeC comp dest jump) = instrOfComp comp dest jump := by
  have hC : (encodeC comp dest jump).getLsbD 15 = true := by
    rw [encodeC, BitVec.getLsbD_append, BitVec.getLsbD_append, BitVec.getLsbD_append]
    rfl
  have hcomp : (encodeC comp dest jump).extractLsb' 6 7 = comp := by
    rw [encodeC, BitVec.extractLsb'_append_eq_of_le (by decide), BitVec.extractLsb'_append_eq_of_le (by decide)]
    exact BitVec.extractLsb'_append_eq_right
  have hdest : (encodeC comp dest jump).extractLsb' 3 3 = dest.bits := by
    rw [encodeC, BitVec.extractLsb'_append_eq_of_le (by decide)]
    exact BitVec.extractLsb'_append_eq_right
  have hjump : (encodeC comp dest jump).extractLsb' 0 3 = jump.bits := by
    rw [encodeC]
    exact BitVec.extractLsb'_append_eq_right
  rw [decode_of_C hC, hcomp, hdest, hjump, destOfBits_bits, jumpOfBits_bits]

/-- The decoder undoes the encoder, one case per constructor: the encoder's bits `{a, c}` select the
constructor's own row of the decoder (R87). -/
theorem decode_encode (i : Instr) : decode (encode i) = i := by
  cases i with
  | atValue value => exact decode_encodeA value
  | _ dest jump => exact decode_encodeC _ dest jump

/-- The encoder writes the bits that the decoder's row was selected by, one case per row (R87). -/
theorem encode_decodeComp (a zx nx zy ny f no : Bool) (dest : Dest) (jump : Jump) :
    encode (decodeComp a zx nx zy ny f no dest jump) =
      encodeC (BitVec.ofBool a ++ BitVec.ofBool zx ++ BitVec.ofBool nx ++ BitVec.ofBool zy ++ BitVec.ofBool ny ++
        BitVec.ofBool f ++ BitVec.ofBool no) dest jump := by
  cases a <;> cases zx <;> cases nx <;> cases zy <;> cases ny <;> cases f <;> cases no <;> rfl

theorem comp_of_bits : ∀ comp : BitVec 7,
    BitVec.ofBool (comp.getLsbD 6) ++ BitVec.ofBool (comp.getLsbD 5) ++ BitVec.ofBool (comp.getLsbD 4) ++
      BitVec.ofBool (comp.getLsbD 3) ++ BitVec.ofBool (comp.getLsbD 2) ++ BitVec.ofBool (comp.getLsbD 1) ++
      BitVec.ofBool (comp.getLsbD 0) = comp := by
  decide

@[simp] theorem encode_instrOfComp (comp : BitVec 7) (dest : Dest) (jump : Jump) :
    encode (instrOfComp comp dest jump) = encodeC comp dest jump := by
  rw [instrOfComp, encode_decodeComp, comp_of_bits]

/-- An A-instruction's word is kept whole (R81). -/
theorem encode_decode_of_A {w : Word} (hA : w.getLsbD 15 = false) : encode (decode w) = w := by
  rw [decode_of_A hA, encode, encodeA]
  refine BitVec.eq_of_getLsbD_eq fun i hi => ?_
  rw [BitVec.getLsbD_append]
  rcases Nat.lt_succ_iff_lt_or_eq.1 hi with hlow | rfl
  · simp [hlow]
  · rw [hA]
    rfl

/-- A C-instruction's word is kept but for bits 14 and 13, which become 1: its low 13 bits are the three fields,
its high 3 bits become 111 (R83, R86). -/
theorem encode_decode_of_C {w : Word} (hC : w.getLsbD 15 = true) : encode (decode w) = w ||| 0x6000#16 := by
  have hfields : w.extractLsb' 6 7 ++ (w.extractLsb' 3 3 ++ w.extractLsb' 0 3) = w.extractLsb' 0 13 := by
    rw [BitVec.extractLsb'_append_extractLsb'_eq_extractLsb' (show 3 = 0 + 3 from rfl),
      BitVec.extractLsb'_append_extractLsb'_eq_extractLsb' (show 6 = 0 + (3 + 3) from rfl)]
  have htop : w.extractLsb' 13 3 ||| 0b011#3 = 0b111#3 := by
    have hset : ∀ t : BitVec 3, t.getLsbD 2 = true → t ||| 0b011#3 = 0b111#3 := by decide
    exact hset _ (by simpa using hC)
  calc encode (decode w)
      = 0b111#3 ++ (w.extractLsb' 6 7 ++ (w.extractLsb' 3 3 ++ w.extractLsb' 0 3)) := by
        rw [decode_of_C hC, encode_instrOfComp, encodeC, bits_destOfBits, bits_jumpOfBits, BitVec.append_assoc,
          BitVec.append_assoc]
        rfl
    _ = (w.extractLsb' 13 3 ||| 0b011#3) ++ (w.extractLsb' 0 13 ||| 0#13) := by
        rw [hfields, htop, BitVec.or_zero]
    _ = (w.extractLsb' 13 3 ++ w.extractLsb' 0 13) ||| (0b011#3 ++ 0#13) := BitVec.or_append.symm
    _ = w ||| 0x6000#16 := by
        rw [BitVec.extractLsb'_append_extractLsb']
        rfl

end Sys2Proof
end

/-! The opcode table: what its masks fix, and that every word fits the row it decodes to. -/
section
namespace Sys2Proof

/-- The bits a row fixes are bit 15 alone, or bits 15 and 12 to 6; bit 15 of its match says which (R87). -/
theorem rowMask_eq_ite (i : Instr) : rowMask i = if (rowMatch i).getLsbD 15 then 0x9FC0#16 else 0x8000#16 := by
  cases i with
  | _ => rw [rowMatch]; rfl

/-- Every row fixes bit 15 (R87). -/
theorem rowMask_bit15 (i : Instr) : (rowMask i).getLsbD 15 = true := by
  rw [rowMask_eq_ite]
  split <;> rfl

/-- No row fixes a bit that the encoder sets by choice (R86; log entry 9). -/
theorem ignored_and_rowMask (i : Instr) : 0x6000#16 &&& rowMask i = 0#16 := by
  rw [rowMask_eq_ite]
  split <;> rfl

/-- Every instruction's word fits the instruction's row (R87). -/
theorem encode_and_rowMask (i : Instr) : encode i &&& rowMask i = rowMatch i := by
  cases i with
  | atValue value => exact Laws.EncodesItsRow.atValue value
  | _ dest jump => exact (Laws.encodeC_row _ dest jump).trans rfl

/-- Every word fits the row it decodes to: the word that the encoder writes for it differs in ignored bits only. -/
theorem and_rowMask_decode (w : Word) : w &&& rowMask (decode w) = rowMatch (decode w) := by
  rw [← encode_and_rowMask]
  cases hbit : w.getLsbD 15 with
  | false => rw [encode_decode_of_A hbit]
  | true => rw [encode_decode_of_C hbit, BitVec.and_or_distrib_right, ignored_and_rowMask, BitVec.or_zero]

/-- A word that fits a row agrees with its match in bit 15. -/
theorem rowMatch_bit15 {w : Word} {i : Instr} (h : w &&& rowMask i = rowMatch i) :
    (rowMatch i).getLsbD 15 = w.getLsbD 15 := by
  rw [← h, BitVec.getLsbD_and, rowMask_bit15, Bool.and_true]

/-- The rows that one word fits have one mask: bit 15 of the word selects it. -/
theorem rowMask_eq_of_fits {w : Word} {i j : Instr} (hi : w &&& rowMask i = rowMatch i)
    (hj : w &&& rowMask j = rowMatch j) : rowMask i = rowMask j := by
  rw [rowMask_eq_ite i, rowMask_eq_ite j, rowMatch_bit15 hi, rowMatch_bit15 hj]

end Sys2Proof
end

/-! When a cycle's memory use faults. -/
section
namespace Sys2Proof.Machine

/-- The data memory has no word at an address exactly if the address is not below its size (R302, R306). -/
theorem backed_eq_false_iff (s : State) : backed s = false ↔ 2 ^ s.memW.val ≤ (low15 s.a).toNat := by
  rw [backed, addressM, decide_eq_false_iff_not, Nat.not_lt]

end Sys2Proof.Machine
end

/-! The statements on the encoding (spec/30_encoding.md). -/
section
namespace Sys2Proof.Machine

/-- Settles O1, by cases on the constructor. -/
theorem decodeOfEncodeIsTheInstruction : Obligations.DecodeOfEncodeIsTheInstruction :=
  fun i _ => decode_encode i

/-- Settles O2, by the kind of the word. -/
theorem decodeKeepsEveryBitThatIsRead : Obligations.DecodeKeepsEveryBitThatIsRead := by
  intro w
  cases hbit : w.getLsbD 15 with
  | false => exact encode_decode_of_A hbit
  | true => exact encode_decode_of_C hbit

/-- Settles O3: a C-instruction word decodes as the word with bits 14 and 13 set does, by the two round trips. -/
theorem ignoredBitsDoNotChangeTheInstruction : Obligations.IgnoredBitsDoNotChangeTheInstruction := by
  intro v w hv hw h
  calc decode v = decode (encode (decode v)) := (decode_encode _).symm
    _ = decode (encode (decode w)) := by rw [encode_decode_of_C hv, encode_decode_of_C hw, h]
    _ = decode w := decode_encode _

/-- Settles O4: rows that one word fits have the same mask, so the same bits of the word are their match. -/
theorem opcodeRowsAreDisjointAndCoverEveryWord : Obligations.OpcodeRowsAreDisjointAndCoverEveryWord := by
  intro w
  have hfits := and_rowMask_decode w
  refine ⟨hfits, fun i hi => ?_⟩
  have hmask : rowMask i = rowMask (decode w) := rowMask_eq_of_fits hi hfits
  exact ⟨hmask, by rw [← hi, hmask, hfits]⟩

/-- Settles O7, by the three things a cycle can do: only the third is a use of memory that is not backed. -/
theorem stepFaultsExactlyOnUnbackedMemoryUse : Obligations.StepFaultsExactlyOnUnbackedMemoryUse := by
  intro s
  simp only [← backed_eq_false_iff]
  rcases step_cases s with ⟨hA, hs⟩ | ⟨-, hb, hs⟩ | ⟨hu, hb, hs⟩
  · rw [if_neg (by simp [fetchedUsesM, hA])]
    exact ⟨_, hs⟩
  · rw [if_neg fun ⟨hu, hf⟩ => by simp [hb hu] at hf]
    exact ⟨_, hs⟩
  · rw [if_pos ⟨hu, hb⟩]
    exact hs

/-- Settles O5, by decoding each listed word. -/
theorem listedWordsDecodeAsTheSpecNamesThem : Obligations.ListedWordsDecodeAsTheSpecNamesThem :=
  ⟨rfl, rfl, rfl, rfl, rfl, rfl, rfl, rfl, rfl, rfl, rfl⟩

end Sys2Proof.Machine
end

/-! The clocked register as one-bit cells (spec/40_clocked_storage.md). -/
section
namespace Sys2Proof.Machine

/-- With `load = 1` the register takes its input (R112). -/
@[simp] theorem registerNext_true {n : Nat} (inp s : BitVec n) : registerNext true inp s = inp := rfl

/-- With `load = 0` the register keeps its value, whatever the input (R111, R112). -/
@[simp] theorem registerNext_false {n : Nat} (inp s : BitVec n) : registerNext false inp s = s := rfl

/-- Each bit of the register is a one-bit cell under the register's own `load`. -/
theorem getElem_registerNext {n : Nat} (load : Bool) (inp s : BitVec n) (i : Nat) (hi : i < n) :
    (registerNext load inp s)[i] = bitCellNext load inp[i] s[i] := by
  cases load with
  | false => rfl
  | true => rfl

/-- Bit `i` of the cells side by side is cell `i` after the edge. -/
theorem getElem_registerNextOfCells {n : Nat} (load : Bool) (inp s : BitVec n) (i : Nat) (hi : i < n) :
    (registerNextOfCells load inp s)[i] = bitCellNext load inp[i] s[i] := by
  simp only [registerNextOfCells, BitVec.getElem_ofFnLE, BitVec.getLsbD_eq_getElem hi]

/-- At every width the cells sharing one `load` are the register: they agree bit by bit (R112, R113). -/
theorem registerNextOfCells_eq_registerNext {n : Nat} (load : Bool) (inp s : BitVec n) :
    registerNextOfCells load inp s = registerNext load inp s :=
  BitVec.eq_of_getElem_eq fun i hi =>
    (getElem_registerNextOfCells load inp s i hi).trans (getElem_registerNext load inp s i hi).symm

/-- Settles O44, by the equality at every width and the two values of `load`. -/
theorem registerIsCellsSharingOneLoad : Obligations.RegisterIsCellsSharingOneLoad := by
  intro load inp s
  refine ⟨registerNextOfCells_eq_registerNext load inp s, ?_⟩
  cases load with
  | false => exact registerNext_false inp s
  | true => exact registerNext_true inp s

end Sys2Proof.Machine
end

/-! What a C-instruction computes: its effect from its ALU result, and its ALU result from its code. -/
section
namespace Sys2Proof.Machine

/-- The write-back of a result is the whole effect of a C-instruction with that result (R249, R286). -/
theorem cEffect_writeBack (dest : Dest) (jump : Jump) (out : Word) (s : State) :
    CEffect dest jump out s (writeBack dest jump out s) where
  a := writeBack_a dest jump out s
  d := writeBack_d dest jump out s
  pc := by simp [pcNext, jumpTaken_eq_jumpCondition]
  stored h := by rw [writeBack_mem, if_pos h, readWord_writeWord, if_pos rfl]
  others h k hlow hhigh := by rw [writeBack_mem, if_pos h, readByte_writeWord_of_ne _ _ _ k hlow hhigh]
  kept h := by simp [h]
  imem := writeBack_imem dest jump out s
  memW := writeBack_memW dest jump out s
  resets := writeBack_resets dest jump out s

/-- The memory that an instruction uses is backed, in the words of `Computes` (R305, R306). -/
theorem usesM_imp_backed_iff (y : YSource) (dest : Dest) (s : State) :
    (usesM y dest = true → backed s = true) ↔
      (y = .memM ∨ dest.d3 = true → (addressM s).toNat < 2 ^ s.memW.val) := by
  simp [usesM, backed]

/-- The ALU code `c` gives `f` of its two operands, whatever they are. -/
def AluComputes (c : AluCode) (f : Word → Word → Word) : Prop := ∀ x y, alu x y c = f x y

/-- A C-instruction that evaluates the code `c` computes what the code gives (R123, R244, R245, R286). -/
theorem AluComputes.computes {c : AluCode} {f : Word → Word → Word} (h : AluComputes c f) {y : YSource}
    {instr : Dest → Jump → Instr} (hexec : ∀ dest jump s, exec (instr dest jump) s = computeC y c dest jump s) :
    Computes y instr f := by
  intro dest jump s hbacked
  refine ⟨_, (hexec dest jump s).trans (computeC_next c jump ((usesM_imp_backed_iff y dest s).2 hbacked)), ?_⟩
  rw [h]
  cases y with
  | regA => exact cEffect_writeBack dest jump _ s
  | memM => exact cEffect_writeBack dest jump _ s

/-- A C-instruction evaluates the ALU code that its own bits `{a, c}` hold (R83, R123). -/
theorem exec_instrOfComp (a : BitVec 1) (c : AluCode) (dest : Dest) (jump : Jump) (s : State) :
    exec (instrOfComp (a ++ c) dest jump) s =
      computeC (if a.getLsbD 0 then .memM else .regA) c dest jump s := by
  have hcode : ∀ i < 6, (a ++ c).getLsbD i = c.getLsbD i := fun i hi => by
    rw [BitVec.getLsbD_append, if_pos hi]
  have hbit : (a ++ c).getLsbD 6 = a.getLsbD 0 := BitVec.getLsbD_append
  rw [instrOfComp, exec_decodeComp, hbit, hcode 5 (by decide), hcode 4 (by decide), hcode 3 (by decide),
    hcode 2 (by decide), hcode 1 (by decide), hcode 0 (by decide), ← code_of_bits c]

/-- The instruction with `a = 0` and the code `c` computes what the code gives of D and A. -/
theorem AluComputes.regA {c : AluCode} {f : Word → Word → Word} (h : AluComputes c f) :
    Computes .regA (instrOfComp (0#1 ++ c)) f :=
  h.computes (exec_instrOfComp 0#1 c)

/-- The instruction with `a = 1` and the code `c` computes what the code gives of D and M. -/
theorem AluComputes.memM {c : AluCode} {f : Word → Word → Word} (h : AluComputes c f) :
    Computes .memM (instrOfComp (1#1 ++ c)) f :=
  h.computes (exec_instrOfComp 1#1 c)

/-- Changing the bit `no` of a code complements its result (R121). -/
theorem alu_xor_one (x y : Word) (c : AluCode) : alu x y (c ^^^ 1#6) = ~~~alu x y c := by
  simp only [alu, BitVec.getLsbD_xor]
  cases c.getLsbD 0 <;> simp

/-- The code with `zx nx` and `zy ny` exchanged. -/
def swapOperands (c : AluCode) : AluCode := c.extractLsb' 2 2 ++ c.extractLsb' 4 2 ++ c.extractLsb' 0 2

/-- Bits 5, 4 and bits 3, 2 change places; `f` and `no` stay. -/
theorem getLsbD_swapOperands : ∀ c : AluCode,
    (swapOperands c).getLsbD 5 = c.getLsbD 3 ∧ (swapOperands c).getLsbD 4 = c.getLsbD 2 ∧
    (swapOperands c).getLsbD 3 = c.getLsbD 5 ∧ (swapOperands c).getLsbD 2 = c.getLsbD 4 ∧
    (swapOperands c).getLsbD 1 = c.getLsbD 1 ∧ (swapOperands c).getLsbD 0 = c.getLsbD 0 := by
  decide

/-- The ALU treats its operands alike: a sum and an AND do not depend on their order (R121). -/
theorem alu_swapOperands (x y : Word) (c : AluCode) : alu x y (swapOperands c) = alu y x c := by
  obtain ⟨hzx, hnx, hzy, hny, hf, hno⟩ := getLsbD_swapOperands c
  simp only [alu, hzx, hnx, hzy, hny, hf, hno]
  rw [BitVec.add_comm, BitVec.and_comm]

/-- The code that differs in `no` gives the complement. -/
theorem AluComputes.complement {c : AluCode} {f g : Word → Word → Word} (h : AluComputes c f)
    (hfg : ∀ x y, ~~~f x y = g x y) : AluComputes (c ^^^ 1#6) g := fun x y => by
  rw [alu_xor_one, h, hfg]

/-- The code with its operand bits exchanged gives the same function of the exchanged operands. -/
theorem AluComputes.swap {c : AluCode} {f : Word → Word → Word} (h : AluComputes c f) :
    AluComputes (swapOperands c) fun x y => f y x := fun x y => by
  rw [alu_swapOperands, h]

end Sys2Proof.Machine
end

/-! The closed forms of the codes (spec/41_alu.md R130 to R193), by the identities of R126. Each is stated once: for
the code without the last complement or for D as the operand; `complement` and `swap` give the others. -/
section
namespace Sys2Proof.Machine

/-- Rule R130. -/
theorem aluComputes_and : AluComputes 0b000000#6 fun x y => x &&& y := fun _ _ => rfl

/-- Rule R134. -/
theorem aluComputes_and_not : AluComputes 0b000100#6 fun x y => x &&& ~~~y := fun _ _ => rfl

/-- Rule R146. -/
theorem aluComputes_not_and : AluComputes 0b010000#6 fun x y => ~~~x &&& y := fun _ _ => rfl

/-- Rule R150: the AND of the complements. -/
theorem aluComputes_nor : AluComputes 0b010100#6 fun x y => ~~~(x ||| y) := fun _ _ => BitVec.not_or.symm

/-- Rule R131. -/
theorem aluComputes_nand : AluComputes 0b000001#6 fun x y => ~~~(x &&& y) :=
  aluComputes_and.complement fun _ _ => rfl

/-- Rule R135. -/
theorem aluComputes_not_or : AluComputes 0b000101#6 fun x y => ~~~x ||| y :=
  aluComputes_and_not.complement fun x y => by rw [BitVec.not_and, BitVec.not_not]

/-- Rule R147. -/
theorem aluComputes_or_not : AluComputes 0b010001#6 fun x y => x ||| ~~~y :=
  aluComputes_not_and.complement fun x y => by rw [BitVec.not_and, BitVec.not_not]

/-- Rule R151. -/
theorem aluComputes_or : AluComputes 0b010101#6 fun x y => x ||| y :=
  aluComputes_nor.complement fun _ _ => BitVec.not_not

/-- Rule R132. -/
theorem aluComputes_add : AluComputes 0b000010#6 fun x y => x + y := fun _ _ => rfl

/-- Rule R133. -/
theorem aluComputes_neg_sub_sub_one : AluComputes 0b000011#6 fun x y => -x - y - 1#16 :=
  aluComputes_add.complement fun x y => by bv_omega

/-- Rule R152: the sum of the complements. -/
theorem aluComputes_neg_sub_sub_two : AluComputes 0b010110#6 fun x y => -x - y - 2#16 :=
  fun x y => show ~~~x + ~~~y = -x - y - 2#16 by bv_omega

/-- Rule R153. -/
theorem aluComputes_add_add_one : AluComputes 0b010111#6 fun x y => x + y + 1#16 :=
  aluComputes_neg_sub_sub_two.complement fun x y => by bv_omega

/-- Rule R136; with the operands exchanged, R148. -/
theorem aluComputes_sub_sub_one : AluComputes 0b000110#6 fun x y => x - y - 1#16 :=
  fun x y => show x + ~~~y = x - y - 1#16 by bv_omega

/-- Rule R137; with the operands exchanged, R149. -/
theorem aluComputes_sub_swapped : AluComputes 0b000111#6 fun x y => y - x :=
  aluComputes_sub_sub_one.complement fun x y => by bv_omega

/-- Rule R140; with the operands exchanged, R164. -/
theorem aluComputes_add_zero : AluComputes 0b001010#6 fun x _ => x := fun x _ => BitVec.add_zero x

/-- Rule R142; with the operands exchanged, R178. -/
theorem aluComputes_and_ones : AluComputes 0b001100#6 fun x _ => x :=
  fun x _ => show x &&& ~~~0#16 = x by rw [BitVec.not_zero, BitVec.and_allOnes]

/-- Rule R156; with the operands exchanged, R168. -/
theorem aluComputes_not_add_zero : AluComputes 0b011010#6 fun x _ => ~~~x := fun x _ => BitVec.add_zero (~~~x)

/-- Rule R158; with the operands exchanged, R182. -/
theorem aluComputes_not_and_ones : AluComputes 0b011100#6 fun x _ => ~~~x :=
  fun x _ => show ~~~x &&& ~~~0#16 = ~~~x by rw [BitVec.not_zero, BitVec.and_allOnes]

/-- Rule R141; with the operands exchanged, R165. -/
theorem aluComputes_complement_add_zero : AluComputes 0b001011#6 fun x _ => ~~~x :=
  aluComputes_add_zero.complement fun _ _ => rfl

/-- Rule R143; with the operands exchanged, R179. -/
theorem aluComputes_complement_and_ones : AluComputes 0b001101#6 fun x _ => ~~~x :=
  aluComputes_and_ones.complement fun _ _ => rfl

/-- Rule R157; with the operands exchanged, R169. -/
theorem aluComputes_complement_not_add_zero : AluComputes 0b011011#6 fun x _ => x :=
  aluComputes_not_add_zero.complement fun _ _ => BitVec.not_not

/-- Rule R159; with the operands exchanged, R183. -/
theorem aluComputes_complement_not_and_ones : AluComputes 0b011101#6 fun x _ => x :=
  aluComputes_not_and_ones.complement fun _ _ => BitVec.not_not

/-- Rule R144: adding the word of ones; with the operands exchanged, R180. -/
theorem aluComputes_sub_one : AluComputes 0b001110#6 fun x _ => x - 1#16 :=
  fun x _ => show x + ~~~0#16 = x - 1#16 by bv_omega

/-- Rule R145; with the operands exchanged, R181. -/
theorem aluComputes_neg : AluComputes 0b001111#6 fun x _ => -x :=
  aluComputes_sub_one.complement fun x _ => by bv_omega

/-- Rule R160: adding the word of ones to the complement; with the operands exchanged, R184. -/
theorem aluComputes_neg_sub_two : AluComputes 0b011110#6 fun x _ => -x - 2#16 :=
  fun x _ => show ~~~x + ~~~0#16 = -x - 2#16 by bv_omega

/-- Rule R161; with the operands exchanged, R185. -/
theorem aluComputes_add_one : AluComputes 0b011111#6 fun x _ => x + 1#16 :=
  aluComputes_neg_sub_two.complement fun x _ => by bv_omega

/-- The second operand zeroed, not complemented, an AND, not complemented: `zy ny f no` = 1000. -/
theorem getLsbD_append_zeroed : ∀ bits : BitVec 2,
    (bits ++ 0b1000#4).getLsbD 3 = true ∧ (bits ++ 0b1000#4).getLsbD 2 = false ∧
    (bits ++ 0b1000#4).getLsbD 1 = false ∧ (bits ++ 0b1000#4).getLsbD 0 = false := by
  decide

/-- Whatever the bits `zx nx`, the AND with a zeroed operand is 0 (R138, R154, R170, R186); with the operands exchanged,
R162, R166, R174. -/
theorem aluComputes_and_zero (bits : BitVec 2) : AluComputes (bits ++ 0b1000#4) fun _ _ => 0x0000#16 := fun x y => by
  obtain ⟨hzy, hny, hf, hno⟩ := getLsbD_append_zeroed bits
  simp only [alu, hzy, hny, hf, hno]
  exact BitVec.and_zero

/-- The complement of the AND with a zeroed operand (R139, R155, R171, R187); with the operands exchanged, R163, R167,
R175. -/
theorem aluComputes_complement_and_zero (bits : BitVec 2) :
    AluComputes ((bits ++ 0b1000#4) ^^^ 1#6) fun _ _ => 0xFFFF#16 :=
  (aluComputes_and_zero bits).complement fun _ _ => rfl

/-- Rule R172: 0 + 0. -/
theorem aluComputes_zero_add_zero : AluComputes 0b101010#6 fun _ _ => 0x0000#16 := fun _ _ => rfl

/-- Rule R188: 0xFFFF + 0; with the operands exchanged, R176. -/
theorem aluComputes_ones_add_zero : AluComputes 0b111010#6 fun _ _ => 0xFFFF#16 :=
  fun _ _ => show ~~~0#16 + 0#16 = 0xFFFF#16 by decide

/-- Rule R190: 0xFFFF & 0xFFFF. -/
theorem aluComputes_ones_and_ones : AluComputes 0b111100#6 fun _ _ => 0xFFFF#16 :=
  fun _ _ => show ~~~0#16 &&& ~~~0#16 = 0xFFFF#16 by decide

/-- Rule R192: 0xFFFF + 0xFFFF. -/
theorem aluComputes_ones_add_ones : AluComputes 0b111110#6 fun _ _ => 0xFFFE#16 :=
  fun _ _ => show ~~~0#16 + ~~~0#16 = 0xFFFE#16 by decide

/-- Rule R173. -/
theorem aluComputes_complement_zero_add_zero : AluComputes 0b101011#6 fun _ _ => 0xFFFF#16 :=
  aluComputes_zero_add_zero.complement fun _ _ => rfl

/-- Rule R189; with the operands exchanged, R177. -/
theorem aluComputes_complement_ones_add_zero : AluComputes 0b111011#6 fun _ _ => 0x0000#16 :=
  aluComputes_ones_add_zero.complement fun _ _ => rfl

/-- Rule R191. -/
theorem aluComputes_complement_ones_and_ones : AluComputes 0b111101#6 fun _ _ => 0x0000#16 :=
  aluComputes_ones_and_ones.complement fun _ _ => rfl

/-- Rule R193. -/
theorem aluComputes_complement_ones_add_ones : AluComputes 0b111111#6 fun _ _ => 0x0001#16 :=
  aluComputes_ones_add_ones.complement fun _ _ => rfl

end Sys2Proof.Machine
end

/-! The statements on the ALU (spec/41_alu.md): each constructor's code is looked up among the closed forms. -/
section
namespace Sys2Proof.Machine

/-- Settles O11, by the four AND codes. -/
theorem bitwiseAndForms : Obligations.BitwiseAndForms :=
  ⟨aluComputes_and.regA, aluComputes_and.memM, aluComputes_and_not.regA, aluComputes_and_not.memM,
    aluComputes_not_and.regA, aluComputes_not_and.memM, aluComputes_nor.regA, aluComputes_nor.memM⟩

/-- Settles O12: the OR codes are the complements of the AND codes. -/
theorem bitwiseOrForms : Obligations.BitwiseOrForms :=
  ⟨aluComputes_or.regA, aluComputes_or.memM, aluComputes_or_not.regA, aluComputes_or_not.memM,
    aluComputes_not_or.regA, aluComputes_not_or.memM, aluComputes_nand.regA, aluComputes_nand.memM⟩

/-- Settles O13, by the sums of the operands and of their complements. -/
theorem sumForms : Obligations.SumForms :=
  ⟨aluComputes_add.regA, aluComputes_add.memM, aluComputes_add_add_one.regA, aluComputes_add_add_one.memM,
    aluComputes_neg_sub_sub_one.regA, aluComputes_neg_sub_sub_one.memM, aluComputes_neg_sub_sub_two.regA,
    aluComputes_neg_sub_sub_two.memM⟩

/-- Settles O14, by `y - x` and `x - y - 1` and the exchange of the operands. -/
theorem differenceForms : Obligations.DifferenceForms :=
  ⟨aluComputes_sub_swapped.swap.regA, aluComputes_sub_swapped.swap.memM, aluComputes_sub_swapped.regA,
    aluComputes_sub_swapped.memM, aluComputes_sub_sub_one.regA, aluComputes_sub_sub_one.memM,
    aluComputes_sub_sub_one.swap.regA, aluComputes_sub_sub_one.swap.memM⟩

/-- Settles O15: D is copied by adding 0 or by the AND with ones, as it is or complemented. -/
theorem copyAndComplementOfD : Obligations.CopyAndComplementOfD :=
  ⟨aluComputes_add_zero.regA, aluComputes_and_ones.regA, aluComputes_complement_not_add_zero.regA,
    aluComputes_complement_not_and_ones.regA, aluComputes_add_zero.memM, aluComputes_and_ones.memM,
    aluComputes_complement_not_add_zero.memM, aluComputes_complement_not_and_ones.memM,
    aluComputes_complement_add_zero.regA, aluComputes_complement_and_ones.regA, aluComputes_not_add_zero.regA,
    aluComputes_not_and_ones.regA, aluComputes_complement_add_zero.memM, aluComputes_complement_and_ones.memM,
    aluComputes_not_add_zero.memM, aluComputes_not_and_ones.memM⟩

/-- Settles O16, by adding the word of ones to D or to its complement. -/
theorem arithmeticOnD : Obligations.ArithmeticOnD :=
  ⟨aluComputes_sub_one.regA, aluComputes_sub_one.memM, aluComputes_neg.regA, aluComputes_neg.memM,
    aluComputes_neg_sub_two.regA, aluComputes_neg_sub_two.memM, aluComputes_add_one.regA, aluComputes_add_one.memM⟩

/-- Settles O17, by the codes of O15 with the operands exchanged. -/
theorem copyAndComplementOfSecondOperand : Obligations.CopyAndComplementOfSecondOperand :=
  ⟨aluComputes_add_zero.swap.regA, aluComputes_complement_not_add_zero.swap.regA, aluComputes_and_ones.swap.regA,
    aluComputes_complement_not_and_ones.swap.regA, aluComputes_add_zero.swap.memM,
    aluComputes_complement_not_add_zero.swap.memM, aluComputes_and_ones.swap.memM,
    aluComputes_complement_not_and_ones.swap.memM, aluComputes_complement_add_zero.swap.regA,
    aluComputes_not_add_zero.swap.regA, aluComputes_complement_and_ones.swap.regA,
    aluComputes_not_and_ones.swap.regA, aluComputes_complement_add_zero.swap.memM,
    aluComputes_not_add_zero.swap.memM, aluComputes_complement_and_ones.swap.memM,
    aluComputes_not_and_ones.swap.memM⟩

/-- Settles O18, by the codes of O16 with the operands exchanged. -/
theorem arithmeticOnSecondOperand : Obligations.ArithmeticOnSecondOperand :=
  ⟨aluComputes_sub_one.swap.regA, aluComputes_sub_one.swap.memM, aluComputes_neg.swap.regA,
    aluComputes_neg.swap.memM, aluComputes_neg_sub_two.swap.regA, aluComputes_neg_sub_two.swap.memM,
    aluComputes_add_one.swap.regA, aluComputes_add_one.swap.memM⟩

/-- Settles O19: seven codes are the AND with a zeroed operand, four have two constant operands. -/
theorem constantZeroForms : Obligations.ConstantZeroForms :=
  ⟨(aluComputes_and_zero 0b00#2).regA, (aluComputes_and_zero 0b01#2).regA, (aluComputes_and_zero 0b00#2).swap.regA,
    (aluComputes_and_zero 0b01#2).swap.regA, (aluComputes_and_zero 0b10#2).regA, aluComputes_zero_add_zero.regA,
    (aluComputes_and_zero 0b11#2).swap.regA, aluComputes_complement_ones_add_zero.swap.regA,
    (aluComputes_and_zero 0b11#2).regA, aluComputes_complement_ones_add_zero.regA,
    aluComputes_complement_ones_and_ones.regA, (aluComputes_and_zero 0b00#2).memM,
    (aluComputes_and_zero 0b01#2).memM, (aluComputes_and_zero 0b00#2).swap.memM,
    (aluComputes_and_zero 0b01#2).swap.memM, (aluComputes_and_zero 0b10#2).memM, aluComputes_zero_add_zero.memM,
    (aluComputes_and_zero 0b11#2).swap.memM, aluComputes_complement_ones_add_zero.swap.memM,
    (aluComputes_and_zero 0b11#2).memM, aluComputes_complement_ones_add_zero.memM,
    aluComputes_complement_ones_and_ones.memM⟩

/-- Settles O20, by the complements of the codes of O19. -/
theorem constantMinusOneForms : Obligations.ConstantMinusOneForms :=
  ⟨(aluComputes_complement_and_zero 0b00#2).regA, (aluComputes_complement_and_zero 0b01#2).regA,
    (aluComputes_complement_and_zero 0b00#2).swap.regA, (aluComputes_complement_and_zero 0b01#2).swap.regA,
    (aluComputes_complement_and_zero 0b10#2).regA, aluComputes_complement_zero_add_zero.regA,
    (aluComputes_complement_and_zero 0b11#2).swap.regA, aluComputes_ones_add_zero.swap.regA,
    (aluComputes_complement_and_zero 0b11#2).regA, aluComputes_ones_add_zero.regA, aluComputes_ones_and_ones.regA,
    (aluComputes_complement_and_zero 0b00#2).memM, (aluComputes_complement_and_zero 0b01#2).memM,
    (aluComputes_complement_and_zero 0b00#2).swap.memM, (aluComputes_complement_and_zero 0b01#2).swap.memM,
    (aluComputes_complement_and_zero 0b10#2).memM, aluComputes_complement_zero_add_zero.memM,
    (aluComputes_complement_and_zero 0b11#2).swap.memM, aluComputes_ones_add_zero.swap.memM,
    (aluComputes_complement_and_zero 0b11#2).memM, aluComputes_ones_add_zero.memM, aluComputes_ones_and_ones.memM⟩

/-- Settles O21: the sum of two words of ones, and its complement. -/
theorem constantOneAndMinusTwo : Obligations.ConstantOneAndMinusTwo :=
  ⟨aluComputes_complement_ones_add_ones.regA, aluComputes_complement_ones_add_ones.memM,
    aluComputes_ones_add_ones.regA, aluComputes_ones_add_ones.memM⟩

/-- A result is positive exactly if neither flag is set (R122). -/
theorem sint_pos_iff (out : Word) : 0 < sint out ↔ zr out = false ∧ ng out = false := by
  rw [← Bool.not_eq_true, ← Bool.not_eq_true, ← sint_eq_zero_iff, ← sint_neg_iff]
  omega

/-- Settles O35, by the signed value that each flag tells of. -/
theorem flagsDescribeTheResult : Obligations.FlagsDescribeTheResult := by
  intro out
  have hexclusive : zr out = true → ng out = false := by
    rw [← Bool.not_eq_true, ← sint_eq_zero_iff, ← sint_neg_iff]
    omega
  exact ⟨beq_iff_eq, rfl, hexclusive, sint_eq_zero_iff out, sint_neg_iff out, sint_pos_iff out⟩

end Sys2Proof.Machine
end

/-! The incrementer and its ripple chain (spec/42_incrementer.md). -/
section
namespace Sys2Proof.Machine

/-- The constant 1 has no bit but bit 0, so no stage after the first has an addend (R202). -/
theorem getLsbD_one_succ (i : Nat) : (1#16).getLsbD (i + 1) = false := by
  simp [BitVec.getLsbD_one]

/-- The carry out of stage `i` of the chain is the carry into position `i + 1` of the sum `v + 1` (R202). -/
theorem rippleCarry_eq_carry (v : Word) (i : Nat) : rippleCarry v i = BitVec.carry (i + 1) v 1#16 false := by
  induction i with
  | zero => simp [rippleCarry, BitVec.carry_succ]
  | succ i ih =>
    rw [BitVec.carry_succ, ← ih, getLsbD_one_succ]
    simp [rippleCarry, gateAnd, Bool.atLeastTwo]

/-- Each bit of the chain is the bit of the sum: at bit 0 the addend flips it, after that only the carry does
(R202). -/
theorem rippleBit_eq_getLsbD_increment (v : Word) {i : Nat} (hi : i < 16) :
    rippleBit v i = (increment v).getLsbD i := by
  rw [increment, BitVec.getLsbD_add hi]
  cases i with
  | zero => simp [rippleBit, gateNot]
  | succ i =>
    rw [getLsbD_one_succ, ← rippleCarry_eq_carry]
    simp [rippleBit, gateXor]

/-- Settles O41, bit by bit: the chain's carries are those of the sum. -/
theorem rippleChainIsTheIncrementer : Obligations.RippleChainIsTheIncrementer := by
  intro v
  apply BitVec.eq_of_getElem_eq
  intro i hi
  rw [rippleIncrement, BitVec.getElem_ofFnLE, rippleBit_eq_getLsbD_increment v hi, BitVec.getLsbD_eq_getElem hi]

/-- Settles O40: the sum modulo 2^16, which at 0xFFFF wraps. -/
theorem incrementerAddsOne : Obligations.IncrementerAddsOne :=
  ⟨fun v => BitVec.toNat_add v 1#16, by decide⟩

end Sys2Proof.Machine
end

/-! The memory block as a tree (spec/43_memory_block.md): each leaf is a register under its own `load`, and the
demultiplexers set the `load` of the addressed leaf alone. -/
section
namespace Sys2Proof.Machine

/-- An output of the demultiplexer is 1 exactly if its input is 1 and the output is the one selected (R14). -/
theorem dmuxN_eq_true_iff {k : Nat} (inp : Bool) (sel i : BitVec k) :
    dmuxN inp sel i = true ↔ inp = true ∧ i = sel := by
  rw [dmuxN, Bool.if_false_right, Bool.and_eq_true, decide_eq_true_iff, and_comm]

/-- A demultiplexer whose input is 0 has every output 0 (R14). -/
@[simp] theorem dmuxN_false {k : Nat} (sel i : BitVec k) : dmuxN false sel i = false := ite_self false

/-- An address is its selector followed by the bits passed to the child (R214). -/
theorem selectBits_append_restBits {k rest : Nat} (address : BitVec (k + rest)) :
    selectBits k rest address ++ restBits k rest address = address :=
  BitVec.extractLsb'_append_extractLsb'

/-- Two addresses are equal exactly if they select the same child and the same leaf below it (R214). -/
theorem eq_iff_selectBits_restBits {k rest : Nat} (leaf address : BitVec (k + rest)) :
    leaf = address ↔
      selectBits k rest leaf = selectBits k rest address ∧ restBits k rest leaf = restBits k rest address := by
  refine ⟨fun h => h ▸ ⟨rfl, rfl⟩, fun ⟨hselect, hrest⟩ => ?_⟩
  rw [← selectBits_append_restBits leaf, hselect, hrest, selectBits_append_restBits]

/-- Settles O46, by induction on the levels: each demultiplexer passes `load` on to the selected child alone. -/
theorem exactlyTheAddressedLeafIsLoaded : Obligations.ExactlyTheAddressedLeafIsLoaded := by
  intro ks
  induction ks with
  | nil => exact fun load address leaf => ⟨fun h => ⟨h, BitVec.eq_of_zero_length rfl⟩, And.left⟩
  | cons k ks ih =>
    intro load address leaf
    exact calc
      leafLoad (k :: ks) load address leaf = true
      _ ↔ dmuxN load (selectBits k ks.sum address) (selectBits k ks.sum leaf) = true ∧
            restBits k ks.sum leaf = restBits k ks.sum address := ih _ _ _
      _ ↔ load = true ∧ selectBits k ks.sum leaf = selectBits k ks.sum address ∧
            restBits k ks.sum leaf = restBits k ks.sum address := by rw [dmuxN_eq_true_iff, and_assoc]
      _ ↔ load = true ∧ leaf = address := and_congr_right fun _ => (eq_iff_selectBits_restBits leaf address).symm

/-- What a block shows at a leaf's address after the edge is what a register under that leaf's `load` holds
(R213, R214). -/
theorem blockOut_blockNext (ks : List Nat) (b : Block ks) (inp : Word) (load : Bool)
    (address leaf : BitVec ks.sum) :
    blockOut ks (blockNext ks inp load address b) leaf =
      registerNext (leafLoad ks load address leaf) inp (blockOut ks b leaf) := by
  induction ks generalizing load with
  | nil => rfl
  | cons k ks ih => exact ih _ _ _ _

/-- With `load = 0` no register of the block changes (R213). -/
@[simp] theorem blockNext_false (ks : List Nat) (inp : Word) (address : BitVec ks.sum) (b : Block ks) :
    blockNext ks inp false address b = b := by
  induction ks with
  | nil => rfl
  | cons k ks ih =>
    funext i
    change blockNext ks inp (dmuxN false (selectBits k ks.sum address) i) (restBits k ks.sum address) (b i) = b i
    rw [dmuxN_false, ih]

/-- Settles O45: the leaf at an address is a register, and its `load` is 1 exactly when the block writes that
address. -/
theorem memoryTreeIsAFlatArray : Obligations.MemoryTreeIsAFlatArray := by
  intro ks b inp load address
  refine ⟨fun a => ?_, fun h => by rw [h, blockNext_false]⟩
  rw [blockOut_blockNext, registerNext]
  simp only [exactlyTheAddressedLeafIsLoaded ks load address a]

end Sys2Proof.Machine
end

/-! The wired CPU's cycle on the fetched word: its edge is the machine's (spec/46_cpu.md R282, R286). -/
section
namespace Sys2Proof.Machine

/-- The part of the machine's state that is the CPU's (R288). -/
def cpuPart (s : State) : CpuState := ⟨s.a, s.d, s.pc⟩

/-- The wired CPU's ALU result is the cycle's, if the word of memory stands on `inM` when bit 12 selects it
(R245, R292). -/
theorem cpuAluOut_fetched {s : State} {inM : Word} (reset : Bool)
    (hin : fetchedBit s 12 = true → inM = s.mem.readWord (addressM s)) :
    cpuAluOut (cpuPart s) ⟨fetchWord s, inM, reset⟩ = fetchedOut s := by
  change alu s.d (if fetchedBit s 12 then inM else s.a) _ = fetchedOut s
  rw [fetchedOut]
  cases hsel : fetchedBit s 12 with
  | false => rfl
  | true => rw [hin hsel]; rfl

/-- On an A-instruction the wired CPU takes the machine's edge, whatever `inM` carries (R275, R284, R292). -/
theorem cpuNext_of_A {s : State} (hA : fetchedBit s 15 = false) (inM : Word) :
    cpuNext (cpuPart s) ⟨fetchWord s, inM, resetNow s⟩ = cpuPart (edgeA s) := by
  have hisC : ctlIsC (fetchWord s) = false := hA
  have ha : (edgeA s).a = fetchWord s := edgeA_a hA
  simp [cpuNext, cpuPart, ha, ctlWriteA, ctlWriteD, ctlLoadPC, ctlAInput, hisC, gateNot, gateOr, gateAnd, mux, pcNext]

/-- On a C-instruction the wired CPU takes the machine's edge, if the word of memory stands on `inM` when bit 12
selects it (R282, R286). -/
theorem cpuNext_of_C {s : State} {inM : Word} (hC : fetchedBit s 15 = true)
    (hin : fetchedBit s 12 = true → inM = s.mem.readWord (addressM s)) :
    cpuNext (cpuPart s) ⟨fetchWord s, inM, resetNow s⟩ = cpuPart (edgeC s) := by
  have hisC : ctlIsC (fetchWord s) = true := hC
  simp only [cpuNext, cpuAluOut_fetched _ hin, ctlWriteA, ctlWriteD, ctlLoadPC, ctlAInput, hisC]
  simp [cpuPart, edgeC, jumpTaken, ctlJump, gateNot, gateOr, gateAnd, mux, registerNext, fetchedBit]

/-- The wired machine uses memory in a cycle exactly if the machine does (R305). -/
theorem wiredUsesM_fetchWord (s : State) : wiredUsesM (fetchWord s) = fetchedUsesM s := rfl

/-- `writeM` of the cycle is bits 15 and 3 of the fetched word (R243). -/
theorem ctlWriteM_fetchWord (s : State) : ctlWriteM (fetchWord s) = (fetchedBit s 15 && fetchedBit s 3) := rfl

end Sys2Proof.Machine
end

/-! The wired machine and the machine cycle by cycle (spec/47_system.md R300 to R306). -/
section
namespace Sys2Proof.Machine

/-- Every word of the tree is the word of the data memory at that address. -/
def TreeHolds (ks : List Nat) (b : Block ks) (mem : Memory) : Prop :=
  ∀ address : BitVec ks.sum, blockOut ks b address = mem.readWord (address.setWidth 15)

/-- The two machines agree exactly if their CPUs are in the same state and the tree holds the data memory. -/
theorem agrees_iff {ks : List Nat} {m : Wired ks} {s : State} :
    Agrees ks m s ↔ m.cpu = cpuPart s ∧ ks.sum = s.memW.val ∧ TreeHolds ks m.dmem s.mem := by
  obtain ⟨⟨a, d, pc⟩, dmem⟩ := m
  simp only [Agrees, TreeHolds, cpuPart, CpuState.mk.injEq, and_assoc]

/-- An address that the block's width reaches is not changed by cutting it to that width (R303). -/
theorem setWidth_setWidth_of_lt {w : Nat} {q : Addr15} (hq : q.toNat < 2 ^ w) :
    (q.setWidth w).setWidth 15 = q :=
  BitVec.eq_of_toNat_eq (by simp [Nat.mod_eq_of_lt hq, Nat.mod_eq_of_lt q.isLt])

/-- Inside the block a leaf stands at an address exactly if the data memory's word does. -/
theorem eq_setWidth_iff {w : Nat} (hw : w ≤ 15) {q : Addr15} (hq : q.toNat < 2 ^ w) (leaf : BitVec w) :
    leaf = q.setWidth w ↔ leaf.setWidth 15 = q := by
  constructor
  · rintro rfl
    exact setWidth_setWidth_of_lt hq
  · rintro rfl
    rw [BitVec.setWidth_setWidth_of_le leaf hw, BitVec.setWidth_eq]

/-- A store through the block's ports keeps the tree and the data memory the same (R213, R216). -/
theorem TreeHolds.store {ks : List Nat} {b : Block ks} {mem : Memory} (h : TreeHolds ks b mem) (hw : ks.sum ≤ 15)
    {q : Addr15} (hq : q.toNat < 2 ^ ks.sum) (out : Word) :
    TreeHolds ks (blockNext ks out true (q.setWidth ks.sum) b) (mem.writeWord q out) := by
  intro leaf
  rw [(memoryTreeIsAFlatArray ks b out true (q.setWidth ks.sum)).1, readWord_writeWord, h leaf]
  simp only [true_and, eq_setWidth_iff hw hq]

/-- A cycle that backs the store it makes, if it makes one, keeps the tree and the data memory the same. -/
theorem TreeHolds.edge {ks : List Nat} {b : Block ks} {mem : Memory} (h : TreeHolds ks b mem)
    (hw : ks.sum ≤ 15) {load : Bool} {q : Addr15} (hq : load = true → q.toNat < 2 ^ ks.sum) (out : Word) :
    TreeHolds ks (blockNext ks out load (q.setWidth ks.sum) b) (if load then mem.writeWord q out else mem) := by
  cases load with
  | false => simpa using h
  | true => exact h.store hw (hq rfl) out

/-- The data memory's size is the same for both machines (R302, R303). -/
theorem backed_eq_decide {ks : List Nat} {s : State} (hw : ks.sum = s.memW.val) :
    backed s = decide ((low15 s.a).toNat < 2 ^ ks.sum) := by
  rw [backed, addressM, hw]

/-- Where a word backs the address, that word stands on `inM` (R303, R305). -/
theorem wiredInM_of_backed {ks : List Nat} {dmem : Block ks} {s : State} (hw : ks.sum = s.memW.val)
    (h : TreeHolds ks dmem s.mem) (hb : backed s = true) :
    wiredInM ks ⟨cpuPart s, dmem⟩ = s.mem.readWord (addressM s) := by
  have hlt : (low15 s.a).toNat < 2 ^ ks.sum := by rwa [backed_eq_decide hw, decide_eq_true_iff] at hb
  change (if (low15 s.a).toNat < 2 ^ ks.sum then blockOut ks dmem ((low15 s.a).setWidth ks.sum) else _) = _
  rw [if_pos hlt, h, setWidth_setWidth_of_lt hlt, addressM]

/-- What the wired CPU's inputs carry in a cycle of the wired machine (R303). -/
def wiredCpuIn (ks : List Nat) (dmem : Block ks) (s : State) : CpuIn :=
  ⟨fetchWord s, wiredInM ks ⟨cpuPart s, dmem⟩, resetNow s⟩

/-- The clock edge of the wired machine: the CPU's, and the block's on the CPU's data ports (R303, R305). -/
def wiredEdge (ks : List Nat) (dmem : Block ks) (s : State) : Wired ks where
  cpu := cpuNext (cpuPart s) (wiredCpuIn ks dmem s)
  dmem := blockNext ks (cpuAluOut (cpuPart s) (wiredCpuIn ks dmem s)) (ctlWriteM (fetchWord s))
    ((addressM s).setWidth ks.sum) dmem

/-- A wired cycle does one of two things: its range check fails and it faults, or the CPU and the block both take
their edge (R305, R306). -/
theorem wiredStep_eq {ks : List Nat} (dmem : Block ks) {s : State} (hw : ks.sum = s.memW.val) :
    wiredStep (fun p => s.imem.readWord p) ks (resetNow s) ⟨cpuPart s, dmem⟩ =
      if fetchedUsesM s && !backed s then .fault (.outOfRange (addressM s))
      else .next (wiredEdge ks dmem s) := by
  rw [backed_eq_decide hw, ← wiredUsesM_fetchWord]
  rfl

/-- In a cycle that fetches an A-instruction the CPU takes the machine's edge and the tree is left alone. -/
theorem agrees_edgeA {ks : List Nat} {dmem : Block ks} {s : State} (hw : ks.sum = s.memW.val)
    (h : TreeHolds ks dmem s.mem) (hA : fetchedBit s 15 = false) :
    Agrees ks (wiredEdge ks dmem s) (endCycle (edgeA s)) := by
  refine agrees_iff.2 ⟨cpuNext_of_A hA _, hw, ?_⟩
  rwa [wiredEdge, ctlWriteM_fetchWord, hA, Bool.false_and, blockNext_false]

/-- In a cycle that fetches a C-instruction and backs its memory use, the CPU takes the machine's edge, and the
block stores what the machine stores. -/
theorem agrees_edgeC {ks : List Nat} {dmem : Block ks} {s : State} (hw : ks.sum = s.memW.val)
    (h : TreeHolds ks dmem s.mem) (hC : fetchedBit s 15 = true) (hb : fetchedUsesM s = true → backed s = true) :
    Agrees ks (wiredEdge ks dmem s) (endCycle (edgeC s)) := by
  have hread : fetchedBit s 12 = true → wiredInM ks ⟨cpuPart s, dmem⟩ = s.mem.readWord (addressM s) := fun hsel =>
    wiredInM_of_backed hw h (hb (by simp [fetchedUsesM, hC, hsel]))
  have hwrite : fetchedBit s 3 = true → (addressM s).toNat < 2 ^ ks.sum := fun hM => by
    have hbacked := hb (by simp [fetchedUsesM, hC, hM])
    rwa [backed_eq_decide hw, decide_eq_true_iff] at hbacked
  have hwidth : ks.sum ≤ 15 := by omega
  refine agrees_iff.2 ⟨cpuNext_of_C hC hread, hw, ?_⟩
  rw [wiredEdge, wiredCpuIn, cpuAluOut_fetched _ hread, ctlWriteM_fetchWord, hC, Bool.true_and]
  exact h.edge hwidth hwrite (fetchedOut s)

/-- Settles O50, by the three things a cycle can do: the wired machine's range check is the machine's, and past it
both take the same edge. -/
theorem wiredMachineSimulatesTheMachine : Obligations.WiredMachineSimulatesTheMachine := by
  intro ks m s hagrees
  obtain ⟨hcpu, hw, htree⟩ := agrees_iff.1 hagrees
  obtain ⟨cpu, dmem⟩ := m
  subst hcpu
  rw [wiredStep_eq dmem hw]
  rcases step_cases s with ⟨hA, hs⟩ | ⟨hC, hb, hs⟩ | ⟨hu, hb, hs⟩
  · have hpass : ¬(fetchedUsesM s && !backed s) = true := by simp [fetchedUsesM, hA]
    exact .inl ⟨_, _, if_neg hpass, hs, agrees_edgeA hw htree hA⟩
  · have hpass : ¬(fetchedUsesM s && !backed s) = true := by simpa using hb
    exact .inl ⟨_, _, if_neg hpass, hs, agrees_edgeC hw htree hC hb⟩
  · exact .inr ⟨_, if_pos (by rw [hu, hb]; rfl), hs⟩

end Sys2Proof.Machine
end

/-! The program counter and its construction from a 16-bit register (spec/44_program_counter.md). -/
section
namespace Sys2Proof.Machine

/-- The construction follows the priority of R231: its outer multiplexer is the reset, its inner one the load, and
its register always loads (R235). -/
theorem pcRegisterNext_eq (reset load : Bool) (inp r : Word) :
    pcRegisterNext reset load inp r = if reset then 0#16 else if load then inp else increment r := rfl

/-- An increment carries upward only, so bit 15 of the register never reaches the counter (R235). -/
theorem low15_increment (r : Word) : low15 (increment r) = low15 r + 1#15 :=
  BitVec.setWidth_add r 1#16 (by decide)

/-- Settles O43, arm by arm of R231: only the increment reads the register, and it commutes with dropping bit 15. -/
theorem programCounterBuiltFromARegister : Obligations.ProgramCounterBuiltFromARegister := by
  intro reset load inp r
  rw [pcRegisterNext_eq, pcRegisterOut, pcRegisterOut]
  cases reset with
  | true => rfl
  | false =>
    cases load with
    | true => rfl
    | false => exact (low15_increment r).trans (pcNext_increment inp (low15 r)).symm

/-- Settles O42, arm by arm of R231, each read as a number. -/
theorem programCounterPriority : Obligations.ProgramCounterPriority := by
  intro reset load inp pc
  cases reset with
  | true => rfl
  | false =>
    cases load with
    | true => exact BitVec.toNat_setWidth 15 inp
    | false => rw [pcNext_increment]; exact BitVec.toNat_add pc 1#15

end Sys2Proof.Machine
end

/-! A C-instruction word as the shared operation: its selector, its memory use, its operands (spec/45_control_decode.md
R245, R249). -/
section
namespace Sys2Proof.Machine

/-- A word with bit 15 set runs the shared operation on its own bits (R83, R286). -/
theorem exec_decode_bits {w : Word} (hC : w.getLsbD 15 = true) (s : State) :
    exec (decode w) s =
      computeC (if w.getLsbD 12 then .memM else .regA) (w.extractLsb' 6 6)
        ⟨w.getLsbD 5, w.getLsbD 4, w.getLsbD 3⟩ ⟨w.getLsbD 2, w.getLsbD 1, w.getLsbD 0⟩ s := by
  rw [exec_decode_C hC, destOfBits_extract, jumpOfBits_extract]

/-- The second operand under the selector bit (R245). -/
theorem operandY_ite (sel : Bool) (s : State) :
    operandY (if sel then .memM else .regA) s = if sel then s.mem.readWord (addressM s) else s.a := by
  cases sel with
  | false => rfl
  | true => rfl

/-- Memory is used exactly if the selector bit or the destination bit 3 is set (R305). -/
theorem usesM_ite_iff (sel : Bool) (dest : Dest) :
    usesM (if sel then .memM else .regA) dest = true ↔ sel = true ∨ dest.d3 = true := by
  cases sel with
  | false => simp [usesM]
  | true => simp [usesM]

end Sys2Proof.Machine
end

/-! The control unit's outputs as instruction bits (spec/45_control_decode.md R241 to R248, R271). -/
section
namespace Sys2Proof.Machine

theorem ctlWriteA_eq_true_iff (w : Word) :
    ctlWriteA w = true ↔ w.getLsbD 15 = false ∨ w.getLsbD 5 = true := by
  simp [ctlWriteA, ctlIsC, gateOr, gateNot]

theorem ctlWriteD_eq_true_iff (w : Word) :
    ctlWriteD w = true ↔ w.getLsbD 15 = true ∧ w.getLsbD 4 = true :=
  Bool.and_eq_true_iff

theorem ctlWriteM_eq_true_iff (w : Word) :
    ctlWriteM w = true ↔ w.getLsbD 15 = true ∧ w.getLsbD 3 = true :=
  Bool.and_eq_true_iff

/-- An A-instruction never writes D, whatever its bit 4 (R247). -/
theorem ctlWriteD_of_A {w : Word} (hA : w.getLsbD 15 = false) : ctlWriteD w = false := by
  rw [ctlWriteD, ctlIsC, hA, gateAnd, Bool.false_and]

/-- An A-instruction never writes memory, whatever its bit 3 (R243). -/
theorem ctlWriteM_of_A {w : Word} (hA : w.getLsbD 15 = false) : ctlWriteM w = false := by
  rw [ctlWriteM, ctlIsC, hA, gateAnd, Bool.false_and]

/-- The ALU control bits are instruction bits 6 to 11 in their order (R246). -/
theorem getLsbD_ctlAluCode (w : Word) {i : Nat} (hi : i < 6) :
    (ctlAluCode w).getLsbD i = w.getLsbD (6 + i) := by
  simp [ctlAluCode, hi]

/-- The control unit loads the program counter on C-instructions only (R271). -/
theorem ctlLoadPC_of_A {w : Word} (hA : w.getLsbD 15 = false) (zero negative : Bool) :
    ctlLoadPC w zero negative = false := by
  rw [ctlLoadPC, ctlIsC, hA, gateAnd, Bool.and_false]

/-- An A-instruction's word goes to the A register as it is (R248). -/
theorem ctlAInput_of_A {w : Word} (hA : w.getLsbD 15 = false) (out : Word) : ctlAInput w out = w := by
  rw [ctlAInput, ctlIsC, hA]
  rfl

/-- A word with bit 15 clear is its 15-bit literal, so it is at most 32767 (R248). -/
theorem toNat_le_of_bit15_clear {w : Word} (hA : w.getLsbD 15 = false) : w.toNat ≤ 32767 := by
  have hlit : w.toNat = (w.extractLsb' 0 15).toNat := by
    conv_lhs => rw [← zext16_extract_of_bit15_clear hA]
    exact BitVec.toNat_setWidth_of_le (by decide)
  omega

end Sys2Proof.Machine
end

/-! The statements on the control/decode unit (spec/45_control_decode.md). -/
section
namespace Sys2Proof.Machine

/-- Settles O9: the word runs the shared operation on its own bits, which commits its whole write-back where the
memory it uses is backed, and faults elsewhere. -/
theorem everyCInstructionWordHasItsEffect : Obligations.EveryCInstructionWordHasItsEffect := by
  intro w s hC usesMem y out
  have huses : usesM (if w.getLsbD 12 then .memM else .regA) ⟨w.getLsbD 5, w.getLsbD 4, w.getLsbD 3⟩ = true ↔
      usesMem := usesM_ite_iff _ _
  rw [exec_decode_bits hC]
  constructor
  · intro hbacked
    refine ⟨_, computeC_next _ _ fun hu => decide_eq_true (hbacked (huses.1 hu)), ?_⟩
    rw [operandY_ite]
    exact cEffect_writeBack _ _ out s
  · intro hu hunbacked
    exact computeC_fault _ _ (huses.2 hu) ((backed_eq_false_iff s).2 hunbacked)

/-- Settles O36, by the sign of the result, which fixes both flags. -/
theorem jumpIsDecidedByTheSignOfTheResult : Obligations.JumpIsDecidedByTheSignOfTheResult :=
  jumpTaken_eq_jumpCondition

/-- Settles O37, by evaluating the equation of R258 at its 32 inputs. -/
theorem jumpTruthTable : Obligations.JumpTruthTable := by
  unfold Obligations.JumpTruthTable
  decide

/-- Settles O38, output by output. -/
theorem controlUnitEquations : Obligations.ControlUnitEquations := by
  intro w out zero negative
  have hcode {i : Nat} (hi : i < 6) := getLsbD_ctlAluCode w hi
  refine ⟨rfl, ctlWriteA_eq_true_iff w, ctlWriteM_eq_true_iff w, fun _ _ _ => rfl, ctlWriteD_eq_true_iff w,
    ⟨hcode (by decide), hcode (by decide), hcode (by decide), hcode (by decide), hcode (by decide),
      hcode (by decide)⟩, rfl, fun hA => ?_⟩
  rw [ctlAInput_of_A hA]
  exact toNat_le_of_bit15_clear hA

/-- Settles O39: with bit 15 clear `writeA` is forced to 1 and the other enables to 0 (R275). -/
theorem aInstructionControlOutputs : Obligations.AInstructionControlOutputs := by
  intro w out zero negative hA
  exact ⟨hA, (ctlWriteA_eq_true_iff w).2 (.inl hA), ctlWriteD_of_A hA, ctlWriteM_of_A hA, ctlLoadPC_of_A hA zero negative,
    rfl, rfl, ctlAInput_of_A hA out⟩

end Sys2Proof.Machine
end

/-! What a word does when it answers a next state (spec/46_cpu.md R284, R286). -/
section
namespace Sys2Proof.Machine

/-- The program counter's priority: reset, load, advance (R231). -/
theorem pcNext_eq_ite (reset load : Bool) (inp : Word) (pc : Addr15) :
    pcNext reset load inp pc = if reset then 0#15 else if load then low15 inp else pc + 1#15 := by
  rw [pcNext, pcIncrement_eq]

/-- A word with bit 15 clear goes to A as it is and advances or resets the program counter; nothing else changes
(R284). -/
theorem exec_decode_literal {w : Word} (hA : w.getLsbD 15 = false) (s : State) :
    exec (decode w) s = .next { s with a := w, pc := if resetNow s then 0#15 else s.pc + 1#15 } := by
  rw [exec_decode_A hA, writeLiteral, zext16_extract_of_bit15_clear hA, pcNext_eq_ite]
  rfl

/-- The word of a literal is an A-instruction (R81). -/
theorem encodeA_bit15 (value : Addr15) : (encodeA value).getLsbD 15 = false := by
  rw [encodeA, BitVec.getLsbD_append]
  rfl

/-- What stands on the CPU's inputs when a word runs from a state of the machine (R280, R303). -/
def cpuInput (w : Word) (s : State) : CpuIn := ⟨w, s.mem.readWord (addressM s), resetNow s⟩

/-- The shared operation of a word computes what the CPU's ALU does (R244, R245, R246). -/
theorem alu_operands_eq_cpuAluOut (w : Word) (s : State) :
    alu (operandX s) (operandY (if w.getLsbD 12 then .memM else .regA) s) (w.extractLsb' 6 6) =
      cpuAluOut (cpuPart s) (cpuInput w s) := by
  rw [operandY_ite]
  rfl

/-- A C-instruction's word that answers a next state has written back the result of the CPU's ALU (R286). -/
theorem exec_decode_C_next {w : Word} (hC : w.getLsbD 15 = true) {s t : State} (h : exec (decode w) s = .next t) :
    t = writeBack ⟨w.getLsbD 5, w.getLsbD 4, w.getLsbD 3⟩ ⟨w.getLsbD 2, w.getLsbD 1, w.getLsbD 0⟩
      (cpuAluOut (cpuPart s) (cpuInput w s)) s := by
  rw [exec_decode_bits hC] at h
  rcases computeC_cases (if w.getLsbD 12 then .memM else .regA) (w.extractLsb' 6 6)
      ⟨w.getLsbD 5, w.getLsbD 4, w.getLsbD 3⟩ ⟨w.getLsbD 2, w.getLsbD 1, w.getLsbD 0⟩ s with
    ⟨_, _, hfault⟩ | ⟨_, hnext⟩
  · rw [hfault] at h
    cases h
  · rw [hnext, alu_operands_eq_cpuAluOut] at h
    cases h
    rfl

end Sys2Proof.Machine
end

/-! The CPU's cycle on any word (spec/46_cpu.md R282, R283, R288): an A-instruction's, a C-instruction's, and what in it
depends on `inM`. -/
section
namespace Sys2Proof.Machine

/-- The control unit's jump field is bits 2, 1, 0 (R258). -/
theorem ctlJump_eq (w : Word) : ctlJump w = ⟨w.getLsbD 2, w.getLsbD 1, w.getLsbD 0⟩ := jumpOfBits_extract w

/-- A C-instruction writes A on bit 5 alone (R242). -/
theorem ctlWriteA_of_C {w : Word} (hC : w.getLsbD 15 = true) : ctlWriteA w = w.getLsbD 5 := by
  rw [ctlWriteA, ctlIsC, hC]
  rfl

/-- A C-instruction writes D on bit 4 alone (R247). -/
theorem ctlWriteD_of_C {w : Word} (hC : w.getLsbD 15 = true) : ctlWriteD w = w.getLsbD 4 := by
  rw [ctlWriteD, ctlIsC, hC, gateAnd, Bool.true_and]

/-- A C-instruction writes memory on bit 3 alone (R243). -/
theorem ctlWriteM_of_C {w : Word} (hC : w.getLsbD 15 = true) : ctlWriteM w = w.getLsbD 3 := by
  rw [ctlWriteM, ctlIsC, hC, gateAnd, Bool.true_and]

/-- On a C-instruction the ALU result goes to the A register (R248). -/
theorem ctlAInput_of_C {w : Word} (hC : w.getLsbD 15 = true) (out : Word) : ctlAInput w out = out := by
  rw [ctlAInput, ctlIsC, hC]
  rfl

/-- On a C-instruction the jump decision alone loads the program counter (R260, R271). -/
theorem ctlLoadPC_of_C {w : Word} (hC : w.getLsbD 15 = true) (zero negative : Bool) :
    ctlLoadPC w zero negative = jumpDecision ⟨w.getLsbD 2, w.getLsbD 1, w.getLsbD 0⟩ zero negative := by
  rw [ctlLoadPC, ctlIsC, hC, gateAnd, Bool.and_true, ctlJump_eq]

/-- On an A-instruction the CPU takes the word into A, whatever `inM` carries (R275, R284, R292). -/
theorem cpuNext_word_of_A {w : Word} (hA : w.getLsbD 15 = false) (c : CpuState) (inM : Word) (reset : Bool) :
    cpuNext c ⟨w, inM, reset⟩ = ⟨w, c.d, if reset then 0#15 else c.pc + 1#15⟩ := by
  have hload : ctlWriteA w = true := (ctlWriteA_eq_true_iff w).2 (.inl hA)
  simp only [cpuNext, hload, ctlAInput_of_A hA, ctlWriteD_of_A hA, ctlLoadPC_of_A hA, pcNext_eq_ite]
  rfl

/-- On a C-instruction A and D take the ALU result if their bit is set, and the program counter jumps on it (R242,
R247, R248, R271). -/
theorem cpuNext_word_of_C {w : Word} (hC : w.getLsbD 15 = true) (c : CpuState) (inM : Word) (reset : Bool) :
    let out := cpuAluOut c ⟨w, inM, reset⟩
    cpuNext c ⟨w, inM, reset⟩ =
      ⟨if w.getLsbD 5 then out else c.a, if w.getLsbD 4 then out else c.d,
        pcNext reset (jumpTaken ⟨w.getLsbD 2, w.getLsbD 1, w.getLsbD 0⟩ out) c.a c.pc⟩ := by
  simp only [cpuNext, ctlWriteA_of_C hC, ctlWriteD_of_C hC, ctlAInput_of_C hC, ctlLoadPC_of_C hC]
  rfl

/-- On an A-instruction the CPU stores nothing, and nothing is valid on `outM` (R284, R289). -/
theorem cpuOut_word_of_A {w : Word} (hA : w.getLsbD 15 = false) (c : CpuState) (inM : Word) (reset : Bool) :
    cpuOut c ⟨w, inM, reset⟩ = ⟨none, false, low15 c.a, c.pc⟩ := by
  simp only [cpuOut, ctlWriteM_of_A hA]
  rfl

/-- On a C-instruction the CPU stores the ALU result if bit 3 is set (R243, R283). -/
theorem cpuOut_word_of_C {w : Word} (hC : w.getLsbD 15 = true) (c : CpuState) (inM : Word) (reset : Bool) :
    cpuOut c ⟨w, inM, reset⟩ =
      ⟨if w.getLsbD 3 then some (cpuAluOut c ⟨w, inM, reset⟩) else none, w.getLsbD 3, low15 c.a, c.pc⟩ := by
  simp only [cpuOut, ctlWriteM_of_C hC]

/-- With bit 12 clear the ALU's second operand is A, whatever `inM` carries (R245, R292). -/
theorem cpuAluOut_of_not_selectM {w : Word} (hsel : w.getLsbD 12 = false) (c : CpuState) (u v : Word) (reset : Bool) :
    cpuAluOut c ⟨w, u, reset⟩ = cpuAluOut c ⟨w, v, reset⟩ := by
  simp only [cpuAluOut, ctlSelectM, hsel]
  rfl

end Sys2Proof.Machine
end

/-! The statements on the CPU (spec/46_cpu.md). -/
section
namespace Sys2Proof.Machine

/-- Settles O49, by the kind of instruction: a word that answers a next state loads its literal, or writes back the
result of the CPU's own ALU, and either is the CPU's cycle on that word. -/
theorem instructionsAreWhatTheDatapathDoes : Obligations.InstructionsAreWhatTheDatapathDoes := by
  intro w s t h c i
  cases hbit : w.getLsbD 15 with
  | false =>
    rw [exec_decode_literal hbit] at h
    cases h
    rw [cpuNext_word_of_A hbit, cpuOut_word_of_A hbit]
    exact ⟨rfl, rfl⟩
  | true =>
    rw [exec_decode_C_next hbit h, cpuNext_word_of_C hbit, cpuOut_word_of_C hbit]
    refine ⟨rfl, ?_⟩
    rw [writeBack_mem]
    cases w.getLsbD 3 with
    | false => rfl
    | true => rfl

/-- Settles O48: an A-instruction's cycle does not read the ALU result, with bit 12 clear the ALU does not read `inM`,
and `writeM`, `addressM`, `pc` and a reset program counter read neither. -/
theorem memoryInputMattersOnlyWhenSelected : Obligations.MemoryInputMattersOnlyWhenSelected := by
  intro s w u v r
  refine ⟨?_, rfl, rfl, rfl, rfl⟩
  rintro (hA | hsel)
  · rw [cpuNext_word_of_A hA, cpuNext_word_of_A hA, cpuOut_word_of_A hA, cpuOut_word_of_A hA]
    exact ⟨rfl, rfl⟩
  · simp only [cpuNext, cpuOut, cpuAluOut_of_not_selectM hsel s u v, and_self]

/-- Settles O10: a word with bit 15 clear loads itself, and a literal's word is such a word. -/
theorem aInstructionLoadsItsLiteral : Obligations.AInstructionLoadsItsLiteral := by
  refine ⟨fun value s => ?_, fun w s hA => exec_decode_literal hA s⟩
  rw [← decode_encodeA value]
  exact exec_decode_literal (encodeA_bit15 value) s

/-- Settles O47, signal by signal: each of the CPU's wires is the pseudocode's line for it, once the jump field is read
as its three bits and the incrementer as `+ 1`. -/
theorem cpuStepIsTheSpecsPseudocode : Obligations.CpuStepIsTheSpecsPseudocode := by
  intro s i w isC y out jump
  have hload : ctlLoadPC w (zr out) (ng out) = (jump && isC) := by rw [ctlLoadPC, ctlJump_eq]; rfl
  have hpc : (cpuNext s i).pc = pcNext i.reset (ctlLoadPC w (zr out) (ng out)) s.a s.pc := rfl
  exact ⟨rfl, rfl, by rw [hpc, hload, pcNext_eq_ite], rfl⟩

end Sys2Proof.Machine
end

/-! What a whole cycle keeps or repeats (spec/47_system.md R301 to R310): the two stores' form, the range check with a
full data memory, a cycle that only jumps. -/
section
namespace Sys2Proof.Machine

/-- A C-instruction completes or faults; it is never a refusal (R306). -/
theorem computeC_ne_refused (y : YSource) (c : AluCode) (dest : Dest) (jump : Jump) (s : State) (r : Refusal) :
    computeC y c dest jump s ≠ .refused r := by
  rcases computeC_cases y c dest jump s with ⟨-, -, hfault⟩ | ⟨-, hnext⟩
  · simp [hfault]
  · simp [hnext]

/-- The meaning of a decoded word is never a refusal: a literal completes, any other word is a C-instruction. -/
theorem exec_decode_ne_refused (w : Word) (s : State) (r : Refusal) : exec (decode w) s ≠ .refused r := by
  cases hbit : w.getLsbD 15 with
  | false => simp [exec_decode_A hbit]
  | true =>
    rw [exec_decode_C hbit]
    exact computeC_ne_refused _ _ _ _ s r

/-- A write-back that stores only where a word backs the address keeps both stores' form (R213, R302, R306). -/
theorem wf_writeBack {dest : Dest} {s : State} (jump : Jump) (out : Word) (hs : s.wf = true)
    (hstore : dest.d3 = true → backed s = true) : (writeBack dest jump out s).wf = true := by
  simp only [State.wf, Bool.and_eq_true] at hs
  obtain ⟨⟨⟨hmem, himem⟩, hmemIn⟩, himemIn⟩ := hs
  simp only [State.wf, Bool.and_eq_true, writeBack_mem, writeBack_imem, writeBack_memW]
  cases hd : dest.d3 with
  | false => exact ⟨⟨⟨hmem, himem⟩, hmemIn⟩, himemIn⟩
  | true =>
    have haddr : (addressM s).toNat < 2 ^ s.memW.val := of_decide_eq_true (hstore hd)
    exact ⟨⟨⟨wf_writeWord _ out hmem, himem⟩, within_writeWord out haddr hmemIn⟩, himemIn⟩

/-- The form of the stores does not depend on A or the program counter. -/
@[simp] theorem wf_edgeA (s : State) : (edgeA s).wf = s.wf := rfl

/-- The form of the stores does not depend on the input `reset`. -/
@[simp] theorem wf_endCycle (s : State) : (endCycle s).wf = s.wf := rfl

/-- A store is a use of memory (R305). -/
theorem fetchedUsesM_of_store {s : State} (hC : fetchedBit s 15 = true) (hM : fetchedBit s 3 = true) :
    fetchedUsesM s = true := by
  simp [fetchedUsesM, hC, hM]

/-- A C-instruction whose memory use, if any, is backed keeps both stores' form. -/
theorem wf_edgeC {s : State} (hC : fetchedBit s 15 = true) (hb : fetchedUsesM s = true → backed s = true)
    (hs : s.wf = true) : (edgeC s).wf = true :=
  wf_writeBack _ _ hs fun hM => hb (fetchedUsesM_of_store hC hM)

/-- A data memory of `2 ^ 15` words backs every data address (R302). -/
theorem backed_of_memW_eq_15 {s : State} (h : s.memW = 15) : backed s = true := by
  rw [backed, h]
  exact decide_eq_true (addressM s).isLt

/-- An A-instruction's word is its value with a zero bit 15 (R81, R284). -/
theorem encodeA_eq_zext16 (value : Addr15) : encodeA value = zext16 value := by
  rw [encodeA, zext16, BitVec.setWidth_eq_append (by decide)]
  rfl

/-- A `reset` that stays 0 is 0 in this cycle (R350; log entry 6). -/
theorem resetNow_of_released {s : State} (h : ∀ r ∈ s.resets, r = false) : resetNow s = false := by
  rw [resetNow]
  cases hq : s.resets with
  | nil => rfl
  | cons r rest => exact h r (by simp [hq])

/-- The jump code 111 jumps on every result (R270). -/
@[simp] theorem jumpTaken_always (out : Word) : jumpTaken ⟨true, true, true⟩ out = true :=
  jumpTaken_eq_jumpCondition _ out

/-- A cycle that fetches a literal while `reset` is 0 loads it into A and advances (R284). -/
theorem step_of_literal {s : State} {value : Addr15} (hword : fetchWord s = encodeA value) (hr : resetNow s = false) :
    step s = .next (endCycle { s with a := zext16 value, pc := s.pc + 1#15 }) := by
  rw [step, hword, exec_decode_literal (encodeA_bit15 value), hr, encodeA_eq_zext16]
  rfl

/-- The low six bits of the fetched word are its destination and jump bits (R83). -/
theorem fetchedBit_of_low {s : State} {low : BitVec 6} (h : (fetchWord s).extractLsb' 0 6 = low) {i : Nat}
    (hi : i < 6) : fetchedBit s i = low.getLsbD i := by
  simp [fetchedBit, ← h, hi]

/-- A cycle that fetches an unconditional jump without destination or memory use, while `reset` is 0, goes to the
low 15 bits of A and changes nothing else (R249, R286). -/
theorem step_of_goto {s : State} (hC : fetchedBit s 15 = true) (hsel : fetchedBit s 12 = false)
    (hlow : (fetchWord s).extractLsb' 0 6 = 0b000111#6) (hr : resetNow s = false) :
    step s = .next (endCycle { s with pc := low15 s.a }) := by
  have hbit {i : Nat} (hi : i < 6) := fetchedBit_of_low hlow hi
  have hnoM : fetchedUsesM s = false := by simp [fetchedUsesM, hsel, hbit (i := 3)]
  have hedge : edgeC s = writeBack ⟨false, false, false⟩ ⟨true, true, true⟩ (fetchedOut s) s := by
    simp [edgeC, hbit]
  rw [step_of_C hC fun hu => absurd hu (by simp [hnoM]), hedge, writeBack, hr, jumpTaken_always]
  rfl

end Sys2Proof.Machine
end

/-! The statements on the system (spec/47_system.md). -/
section
namespace Sys2Proof.Machine

/-- Settles O29, by the three things a cycle can do: an A-instruction leaves both stores alone, a C-instruction that
completes stores only inside the data memory, and a fault answers no next state. -/
theorem stepKeepsTheStateWellFormed : Obligations.StepKeepsTheStateWellFormed := by
  intro s t hwf h
  rcases step_cases s with ⟨-, hs⟩ | ⟨hC, hb, hs⟩ | ⟨-, -, hs⟩
  · cases h.symm.trans hs
    rwa [wf_endCycle, wf_edgeA]
  · cases h.symm.trans hs
    rw [wf_endCycle]
    exact wf_edgeC hC hb hwf
  · cases h.symm.trans hs

/-- Settles O8, by the three things a cycle can do: the one that faults needs an address that no word backs. -/
theorem fullDataMemoryNeverFaults : Obligations.FullDataMemoryNeverFaults := by
  intro s hfull
  rcases step_cases s with ⟨-, hs⟩ | ⟨-, -, hs⟩ | ⟨-, hunbacked, -⟩
  · exact ⟨_, hs⟩
  · exact ⟨_, hs⟩
  · rw [backed_of_memW_eq_15 hfull] at hunbacked
    cases hunbacked

/-- Settles O26, by the two edges a completed step can take: neither writes a parameter, and the end of the cycle
drops one level. -/
theorem noStepChangesTheParameters : Obligations.NoStepChangesTheParameters := by
  intro s t h
  rcases step_next_cases h with ⟨-, rfl⟩ | ⟨-, rfl⟩
  · exact ⟨rfl, rfl, rfl⟩
  · exact ⟨rfl, rfl, rfl⟩

/-- Settles O34: the first cycle loads `p` and advances to `p + 1`, the second jumps back to `p`. -/
theorem parkedMachineRepeatsWithPeriodTwo : Obligations.ParkedMachineRepeatsWithPeriodTwo := by
  rintro p s ⟨hliteral, hC, hsel, hlow, rfl, hreleased⟩
  have hreleased' : ∀ r ∈ s.resets.tail, r = false := fun r hr => hreleased r (List.mem_of_mem_tail hr)
  refine ⟨_, _, step_of_literal hliteral (resetNow_of_released hreleased),
    step_of_goto hC hsel hlow (resetNow_of_released hreleased'), ?_, rfl, rfl, rfl, rfl, rfl, rfl⟩
  exact ⟨hliteral, hC, hsel, hlow, low15_zext16 s.pc, fun r hr => hreleased' r (List.mem_of_mem_tail hr)⟩

/-- Settles O6, by what the meaning of the fetched word answers; a decoded word's meaning never refuses. -/
theorem stepRunsTheDecodedInstruction : Obligations.StepRunsTheDecodedInstruction := by
  rintro s _ rfl -
  refine ⟨fun t ht => ?_, fun f hf => ?_, exec_decode_ne_refused _ s⟩
  · rw [step, fetchWord, ht, endCycleOf_next, endCycle]
  · rw [step, fetchWord, hf, endCycleOf_fault]

end Sys2Proof.Machine
end

/-! The statement on `reset` (spec/70_reset_and_hazards.md). -/
section
namespace Sys2Proof.Machine

/-- Settles O27: the counter's input puts `reset` before the load, and both edges that a completed step can take give
the program counter that input; the end of the cycle leaves it alone. -/
theorem resetDominatesTheProgramCounter : Obligations.ResetDominatesTheProgramCounter := by
  refine ⟨pcNext_reset, fun s t hreset h => ?_⟩
  rcases step_next_cases h with ⟨-, rfl⟩ | ⟨-, rfl⟩
  · rw [endCycle_pc, edgeA_pc, if_pos hreset]
  · rw [endCycle_pc, edgeC_pc, if_pos hreset]

end Sys2Proof.Machine
end
